-- ==== Sys2Proof/Word.lean ====
section
/-! DEFINITION. The values the block computes with: bytes, 32-bit words, quaternions of four words and the six
axis fields (spec 10_state.md R20, R21, R27; 00_scope.md R14, R15). -/

namespace Sys2Proof

/-- A byte (R14). -/
abbrev Byte := BitVec 8

/-- A word: 32 bits, a Q30 scalar or the bit pattern of an IEEE-754 single (R14, R20). -/
abbrev Word := BitVec 32

/-- A quaternion `(w, x, y, z)`: `w` the scalar part, `(x, y, z)` the vector part (R21, R140). -/
structure Quat where
  w : Word
  x : Word
  y : Word
  z : Word
  deriving DecidableEq, Repr

/-- The word 1.0 in Q30 (R20). -/
def oneQ30 : Word := 0x40000000#32

/-- The identity quaternion `(0x40000000, 0, 0, 0)` (R140). -/
def identityQuat : Quat := ⟨oneQ30, 0#32, 0#32, 0#32⟩

/-- A scalar result of the compute port: it stands in `w`, the other components are zero (R96). -/
def scalarQuat (r : Word) : Quat := ⟨r, 0#32, 0#32, 0#32⟩

/-- The six axis fields of `AXIS` and of the `AX` operand: a sign (true negates) and a 2-bit index for each
output axis (R27, R96). -/
structure Axis where
  xs : Bool
  xi : BitVec 2
  ys : Bool
  yi : BitVec 2
  zs : Bool
  zi : BitVec 2
  deriving DecidableEq, Repr

/-- The factory mapping: no sign flip, X from 0, Y from 1, Z from 2 (R67). -/
def factoryAxis : Axis := ⟨false, 0#2, false, 1#2, false, 2#2⟩

end Sys2Proof
end

