-- ==== Sys2Proof/Config.lean ====
section
/-! DEFINITION. The implementation parameters of spec 00_scope.md R13: every value the source leaves to the
implementation is a field of `Params`. The machine carries one `Params` in its state, which no step writes; the
values the spec names as defaults are `defaultParams` of Decode.lean. -/

namespace Sys2Proof

/-- The byte order of the 32-bit payload words, parameter `WORD_ORDER` (R13, R62). -/
inductive WordOrder where
  | little
  | big
  deriving DecidableEq, Repr

/-- The twelve opcode bytes `OP_<mnemonic>` of the wire (R13, R88). -/
structure OpBytes where
  ping : Byte
  replyAck : Byte
  readQuat : Byte
  replyQuat : Byte
  setChipOffset : Byte
  setUnityOffset : Byte
  setAxis : Byte
  setId : Byte
  flash : Byte
  program : Byte
  readCompassAcc : Byte
  replyCompassAcc : Byte
  deriving DecidableEq, Repr

/-- The twelve opcode bytes as a list, in the order of R88. -/
def OpBytes.toList (o : OpBytes) : List Byte :=
  [o.ping, o.replyAck, o.readQuat, o.replyQuat, o.setChipOffset, o.setUnityOffset, o.setAxis, o.setId,
   o.flash, o.program, o.readCompassAcc, o.replyCompassAcc]

/-- One of the two square-root polynomials: its anchor `SQRT_A` and its coefficients `SQRT_C[0..4]`
(R126, R127). -/
structure SqrtSet where
  anchor : Word
  c0 : Word
  c1 : Word
  c2 : Word
  c3 : Word
  c4 : Word
  deriving DecidableEq, Repr

/-- The implementation parameters of R13. -/
structure Params where
  /-- `SENTINEL`, the frame-start byte (R82). -/
  sentinel : Byte
  /-- `PAD`, the byte injected after a sentinel-valued byte (R83). -/
  pad : Byte
  /-- `BROADCAST_ID`, the identity of the firmware-download handshake (R196). -/
  broadcastId : Byte
  /-- `FACTORY_ID`, the identity in the factory record (R67). -/
  factoryId : Byte
  /-- `ACK_SUCCESS`, the payload byte of REPLY_ACK (R93, R223). -/
  ackSuccess : Byte
  /-- `OP_*` (R88). -/
  ops : OpBytes
  /-- `WORD_ORDER` (R62). -/
  wordOrder : WordOrder
  /-- `SQRT_A_EVEN`, `SQRT_C_EVEN` (R126, R127). -/
  sqrtEven : SqrtSet
  /-- `SQRT_A_ODD`, `SQRT_C_ODD` (R126, R127). -/
  sqrtOdd : SqrtSet
  /-- `RX_BUF_SIZE` in bytes (R40). -/
  rxBufSize : Nat
  /-- `TX_BUF_SIZE` in bytes (R45). -/
  txBufSize : Nat
  deriving DecidableEq, Repr

/-- `PAGE_SIZE`: 64 bytes, fixed by the source and not a parameter (R13, last paragraph; R95). -/
def pageSize : Nat := 64

/-- The constraints on the parameters: the twelve opcode bytes are pairwise distinct, the pad differs from the
sentinel (R13), and the buffers are not smaller than their defaults (92_eei_decisions.md D30). -/
def Params.ok (p : Params) : Bool :=
  decide p.ops.toList.Nodup && p.pad != p.sentinel && decide (64 ≤ p.rxBufSize) && decide (18 ≤ p.txBufSize)

end Sys2Proof
end

