-- ==== Sys2Proof/Syntax.lean ====
section
/-! DEFINITION. The instructions of the block: one constructor for each row of spec/opcode_table.json
(00_scope.md R12). Compute operations carry the operands the CP request gives them (30_encoding.md R97); commands
carry their payload (R86); replies carry nothing, their payload comes from the registers (43_protocol.md R223, R228,
R229). -/

namespace Sys2Proof

/-- An instruction. The first twelve are compute operations (format CREQ), the next nine commands (format H2D), the
last three replies (format D2H). -/
inductive Instr where
  /-- TOFLOAT, `A.w` a Q30 word (R112). -/
  | toFloat (a : Word)
  /-- FROMFLOAT, `A.w` an IEEE-754 single bit pattern (R115). -/
  | fromFloat (a : Word)
  /-- MUL, `A.w` and `B.w` (R118). -/
  | mul (a b : Word)
  /-- SQUARE, `A.w` (R122). -/
  | square (a : Word)
  /-- SQRT, `A.w` (R124). -/
  | sqrt (a : Word)
  /-- QCOPY, `A` (R141). -/
  | qcopy (a : Quat)
  /-- QINV, `A` (R142). -/
  | qinv (a : Quat)
  /-- QMUL, `A` left and `B` right (R144). -/
  | qmul (l r : Quat)
  /-- QLMUL, `A` the mutable left and `B` right (R146). -/
  | qlmul (l r : Quat)
  /-- QRMUL, `A` left and `B` the mutable right (R147). -/
  | qrmul (l r : Quat)
  /-- QREMAP, `A` and `AX` (R150). -/
  | qremap (q : Quat) (ax : Axis)
  /-- QPIPE, `A` chip offset, `B` raw sample, `C` unity offset, `AX` (R152). -/
  | qpipe (chip raw unity : Quat) (ax : Axis)
  /-- PING (R200). -/
  | ping
  /-- READ_QUAT (R202). -/
  | readQuat
  /-- SET_CHIP_OFFSET (R203). -/
  | setChipOffset
  /-- SET_UNITY_OFFSET with its four Q30 words (R205). -/
  | setUnityOffset (q : Quat)
  /-- SET_AXIS with its byte (R207). -/
  | setAxis (a : Byte)
  /-- SET_ID with the new identity (R209). -/
  | setId (n : Byte)
  /-- FLASH (R211). -/
  | flash
  /-- PROGRAM with the page count (R213, R214). -/
  | program (n : Byte)
  /-- READ_COMPASS_ACC (R217). -/
  | readCompassAcc
  /-- REPLY_ACK (R223). -/
  | replyAck
  /-- REPLY_QUAT (R228). -/
  | replyQuat
  /-- REPLY_COMPASS_ACC (R229). -/
  | replyCompassAcc
  deriving DecidableEq, Repr

/-- The nine host-to-device commands (R12). -/
inductive Command where
  | ping | readQuat | setChipOffset | setUnityOffset | setAxis | setId | flash | program | readCompassAcc
  deriving DecidableEq, Repr

/-- The three device-to-host replies (R12). -/
inductive ReplyKind where
  | ack | quat | compassAcc
  deriving DecidableEq, Repr

/-- A compute request of the CP port, format `CREQ` (R96). -/
structure Creq where
  op : BitVec 4
  a : BitVec 128
  b : BitVec 128
  c : BitVec 128
  ax : BitVec 9
  deriving DecidableEq, Repr

/-- The three formats of the opcode table (R12, R81, R96). -/
inductive Format where
  | creq | h2d | d2h
  deriving DecidableEq, Repr

/-- The format in which an instruction is encoded. -/
def Instr.format : Instr → Format
  | .toFloat _ => .creq
  | .fromFloat _ => .creq
  | .mul _ _ => .creq
  | .square _ => .creq
  | .sqrt _ => .creq
  | .qcopy _ => .creq
  | .qinv _ => .creq
  | .qmul _ _ => .creq
  | .qlmul _ _ => .creq
  | .qrmul _ _ => .creq
  | .qremap _ _ => .creq
  | .qpipe _ _ _ _ => .creq
  | .ping => .h2d
  | .readQuat => .h2d
  | .setChipOffset => .h2d
  | .setUnityOffset _ => .h2d
  | .setAxis _ => .h2d
  | .setId _ => .h2d
  | .flash => .h2d
  | .program _ => .h2d
  | .readCompassAcc => .h2d
  | .replyAck => .d2h
  | .replyQuat => .d2h
  | .replyCompassAcc => .d2h

end Sys2Proof
end

