-- ==== Sys2Proof/WellFormed.lean ====
section
/-! DEFINITION. The operand contracts the spec names. Every `Instr` term has an encoding, since its operands have
the widths of the encoding's fields; `Instr.wellFormed` says which terms also keep the contracts of the rules (SQRT of
a non-negative word, FROMFLOAT inside its domain, axis indices in 0, 1, 2 and the X and Y index distinct, bit 7 of the
SET_AXIS byte clear). The machine runs the terms outside them too, with the effect the rules state. -/

namespace Sys2Proof

/-- The contract of SQRT: "x >= 0" (R124, 93_implementation_defined.md U2). -/
def sqrtInContract (a : Word) : Bool := !a.msb

/-- The domain of FROMFLOAT: exponent field at most 127, or the pattern of -2.0 (R116, U3). -/
def fromFloatInDomain (f : Word) : Bool :=
  decide ((f.extractLsb' 23 8).toNat ≤ 127) || f == 0xC0000000#32

/-- Every axis index names a sensor component, so none is 3 (R151, U4). -/
def axisIndicesInRange (ax : Axis) : Bool := ax.xi != 3#2 && ax.yi != 3#2 && ax.zi != 3#2

/-- The SET_AXIS byte: X index `a[2:1]` and Y index `a[5:4]` are distinct values in 0, 1, 2 (R27, U4, U6) and the
unused bit 7 is clear (R91, U10). -/
def axisByteInContract (a : Byte) : Bool :=
  a.extractLsb' 1 2 != 3#2 && a.extractLsb' 4 2 != 3#2 && a.extractLsb' 1 2 != a.extractLsb' 4 2 && !a.msb

/-- The instruction keeps every operand contract the spec names for it. -/
def Instr.wellFormed : Instr → Bool
  | .toFloat _ => true
  | .fromFloat a => fromFloatInDomain a
  | .mul _ _ => true
  | .square _ => true
  | .sqrt a => sqrtInContract a
  | .qcopy _ => true
  | .qinv _ => true
  | .qmul _ _ => true
  | .qlmul _ _ => true
  | .qrmul _ _ => true
  | .qremap _ ax => axisIndicesInRange ax
  | .qpipe _ _ _ ax => axisIndicesInRange ax
  | .ping => true
  | .readQuat => true
  | .setChipOffset => true
  | .setUnityOffset _ => true
  | .setAxis a => axisByteInContract a
  | .setId _ => true
  | .flash => true
  | .program _ => true
  | .readCompassAcc => true
  | .replyAck => true
  | .replyQuat => true
  | .replyCompassAcc => true

end Sys2Proof
end

