-- ==== Sys2Proof/Decode.lean ====
section
/-! DEFINITION. The encodings of spec 30_encoding.md, read and written: compute requests (R96, R97), wire frames and
opcode bytes (R81, R86, R88), payload fields (R90 to R94), the byte order of payload words (R62), byte stuffing (R83),
and the default parameters (00_scope.md R13). Decoding is total and rejects by name. -/

namespace Sys2Proof

/-! ## Default parameters (R13, R88, R126, R127) -/

/-- The default opcode bytes of R88. -/
def defaultOps : OpBytes where
  ping := 0x00#8
  replyAck := 0x01#8
  readQuat := 0x02#8
  replyQuat := 0x03#8
  setChipOffset := 0x04#8
  setUnityOffset := 0x05#8
  setAxis := 0x06#8
  setId := 0x07#8
  flash := 0x08#8
  program := 0x09#8
  readCompassAcc := 0x0A#8
  replyCompassAcc := 0x0B#8

/-- `SQRT_A_EVEN` and `SQRT_C_EVEN[0..4]` (R126, R127). -/
def defaultSqrtEven : SqrtSet :=
  ⟨0x30000000#32, 0x376CEE6A#32, 0x24F11C2D#32, 0xF3B4D01B#32, 0x08BF523D#32, 0xF862FB0D#32⟩

/-- `SQRT_A_ODD` and `SQRT_C_ODD[0..4]` (R126, R127). -/
def defaultSqrtOdd : SqrtSet :=
  ⟨0x18000000#32, 0x273116EC#32, 0x343E5F91#32, 0xDD3A6922#32, 0x317B8391#32, 0xA9DD5D04#32⟩

/-- The parameter values the spec uses in every worked example (R13). -/
def defaultParams : Params where
  sentinel := 0xFF#8
  pad := 0x00#8
  broadcastId := 0x00#8
  factoryId := 0x01#8
  ackSuccess := 0x01#8
  ops := defaultOps
  wordOrder := .little
  sqrtEven := defaultSqrtEven
  sqrtOdd := defaultSqrtOdd
  rxBufSize := 64
  txBufSize := 18

/-! ## Rejections -/

/-- Why a decoder gives no instruction. -/
inductive Reject where
  /-- A compute request with a reserved `OP` (R98). -/
  | reservedOp (op : BitVec 4)
  /-- The first byte of a frame is not the sentinel (R81). -/
  | noSentinel (b : Byte)
  /-- The opcode byte is none of the nine commands (R89). -/
  | unknownCommand (b : Byte)
  /-- The opcode byte is none of the three replies (R88). -/
  | unknownReply (b : Byte)
  /-- The payload has not the length the opcode fixes (R84, R86). -/
  | payloadLength (n : Nat)
  /-- The frame ends before its opcode byte (R81). -/
  | truncated
  deriving DecidableEq, Repr

/-- What a decoder answers. -/
inductive Decoded (α : Type) where
  | ok (a : α)
  | rejected (r : Reject)
  deriving DecidableEq, Repr

/-- The decoded value, where there is one. -/
def Decoded.toOption {α : Type} : Decoded α → Option α
  | .ok a => some a
  | .rejected _ => none

/-- Apply a function to a decoded value. -/
def Decoded.map {α β : Type} (f : α → β) : Decoded α → Decoded β
  | .ok a => .ok (f a)
  | .rejected r => .rejected r

/-! ## Fields of a compute request (R96) -/

/-- The quaternion a 128-bit operand holds: `w` = [31:0], `x` = [63:32], `y` = [95:64], `z` = [127:96] (R96). -/
def quatOfBits (v : BitVec 128) : Quat :=
  ⟨v.extractLsb' 0 32, v.extractLsb' 32 32, v.extractLsb' 64 32, v.extractLsb' 96 32⟩

/-- The 128-bit operand that holds a quaternion (R96). -/
def bitsOfQuat (q : Quat) : BitVec 128 := q.z ++ q.y ++ q.x ++ q.w

/-- The axis fields of the 9-bit operand `AX` (R96). -/
def axisOfBits (v : BitVec 9) : Axis :=
  ⟨v.getLsbD 0, v.extractLsb' 1 2, v.getLsbD 3, v.extractLsb' 4 2, v.getLsbD 6, v.extractLsb' 7 2⟩

/-- The 9-bit operand `AX` that holds the axis fields (R96). -/
def bitsOfAxis (ax : Axis) : BitVec 9 :=
  ax.zi ++ BitVec.ofBool ax.zs ++ ax.yi ++ BitVec.ofBool ax.ys ++ ax.xi ++ BitVec.ofBool ax.xs

/-- The compute operation a request selects; a reserved `OP` is rejected by name (R97, R98). -/
def decodeCreq (r : Creq) : Decoded Instr :=
  match r.op.toNat with
  | 0x0 => .ok (.toFloat (quatOfBits r.a).w)
  | 0x1 => .ok (.fromFloat (quatOfBits r.a).w)
  | 0x2 => .ok (.mul (quatOfBits r.a).w (quatOfBits r.b).w)
  | 0x3 => .ok (.square (quatOfBits r.a).w)
  | 0x4 => .ok (.sqrt (quatOfBits r.a).w)
  | 0x8 => .ok (.qcopy (quatOfBits r.a))
  | 0x9 => .ok (.qinv (quatOfBits r.a))
  | 0xA => .ok (.qmul (quatOfBits r.a) (quatOfBits r.b))
  | 0xB => .ok (.qlmul (quatOfBits r.a) (quatOfBits r.b))
  | 0xC => .ok (.qrmul (quatOfBits r.a) (quatOfBits r.b))
  | 0xD => .ok (.qremap (quatOfBits r.a) (axisOfBits r.ax))
  | 0xE => .ok (.qpipe (quatOfBits r.a) (quatOfBits r.b) (quatOfBits r.c) (axisOfBits r.ax))
  | _ => .rejected (.reservedOp r.op)

/-! ## Byte order and payload fields (R62, R90, R91) -/

/-- The four payload bytes of a word in the order of `WORD_ORDER` (R62; `le32` of R17 for the default). -/
def wordBytes (o : WordOrder) (v : Word) : List Byte :=
  match o with
  | .little => [v.extractLsb' 0 8, v.extractLsb' 8 8, v.extractLsb' 16 8, v.extractLsb' 24 8]
  | .big => [v.extractLsb' 24 8, v.extractLsb' 16 8, v.extractLsb' 8 8, v.extractLsb' 0 8]

/-- The word that four payload bytes hold in the order of `WORD_ORDER` (R62; `word_le` of R17 for the default). -/
def wordOfBytes (o : WordOrder) (b0 b1 b2 b3 : Byte) : Word :=
  match o with
  | .little => b3 ++ b2 ++ b1 ++ b0
  | .big => b0 ++ b1 ++ b2 ++ b3

/-- The sixteen payload bytes of four words, in the order w, x, y, z (R62). -/
def quatBytes (o : WordOrder) (q : Quat) : List Byte :=
  wordBytes o q.w ++ wordBytes o q.x ++ wordBytes o q.y ++ wordBytes o q.z

/-- The four words of a sixteen-byte payload (R90); none for any other length. -/
def quatOfBytes (o : WordOrder) : List Byte → Option Quat
  | [b0, b1, b2, b3, b4, b5, b6, b7, b8, b9, b10, b11, b12, b13, b14, b15] =>
    some ⟨wordOfBytes o b0 b1 b2 b3, wordOfBytes o b4 b5 b6 b7, wordOfBytes o b8 b9 b10 b11,
      wordOfBytes o b12 b13 b14 b15⟩
  | _ => none

/-- The axis fields of a SET_AXIS byte, with the derived Z index `wrap2(3 - XI - YI)` (R91, R207). -/
def axisOfByte (a : Byte) : Axis where
  xs := a.getLsbD 0
  xi := a.extractLsb' 1 2
  ys := a.getLsbD 3
  yi := a.extractLsb' 4 2
  zs := a.getLsbD 6
  zi := BitVec.ofInt 2 (3 - ((a.extractLsb' 1 2).toNat : Int) - ((a.extractLsb' 4 2).toNat : Int))

/-! ## Opcode bytes (R88, R89) and payload lengths (R86) -/

/-- The opcode byte of a command (R88). -/
def commandByte (p : Params) : Command → Byte
  | .ping => p.ops.ping
  | .readQuat => p.ops.readQuat
  | .setChipOffset => p.ops.setChipOffset
  | .setUnityOffset => p.ops.setUnityOffset
  | .setAxis => p.ops.setAxis
  | .setId => p.ops.setId
  | .flash => p.ops.flash
  | .program => p.ops.program
  | .readCompassAcc => p.ops.readCompassAcc

/-- The command of an opcode byte: the whole byte is compared with each of the nine values (R88, R198). -/
def commandOf (p : Params) (b : Byte) : Option Command :=
  if b = p.ops.ping then some .ping
  else if b = p.ops.readQuat then some .readQuat
  else if b = p.ops.setChipOffset then some .setChipOffset
  else if b = p.ops.setUnityOffset then some .setUnityOffset
  else if b = p.ops.setAxis then some .setAxis
  else if b = p.ops.setId then some .setId
  else if b = p.ops.flash then some .flash
  else if b = p.ops.program then some .program
  else if b = p.ops.readCompassAcc then some .readCompassAcc
  else none

/-- The opcode byte of a reply (R88). -/
def replyByte (p : Params) : ReplyKind → Byte
  | .ack => p.ops.replyAck
  | .quat => p.ops.replyQuat
  | .compassAcc => p.ops.replyCompassAcc

/-- The reply of an opcode byte (R88). -/
def replyOf (p : Params) (b : Byte) : Option ReplyKind :=
  if b = p.ops.replyAck then some .ack
  else if b = p.ops.replyQuat then some .quat
  else if b = p.ops.replyCompassAcc then some .compassAcc
  else none

/-- The payload length of a command frame (R86). -/
def Command.payloadLen : Command → Nat
  | .ping => 0
  | .readQuat => 0
  | .setChipOffset => 0
  | .setUnityOffset => 16
  | .setAxis => 1
  | .setId => 1
  | .flash => 0
  | .program => 1
  | .readCompassAcc => 0

/-- The payload length of a reply frame (R86). -/
def ReplyKind.payloadLen : ReplyKind → Nat
  | .ack => 1
  | .quat => 16
  | .compassAcc => 1

/-! ## Commands and replies as instructions -/

/-- An instruction whose payload is empty; any other payload is rejected (R86). -/
def withoutPayload (i : Instr) : List Byte → Decoded Instr
  | [] => .ok i
  | b :: bs => .rejected (.payloadLength (b :: bs).length)

/-- An instruction whose payload is one byte; any other payload is rejected (R86, R91, R92). -/
def withPayloadByte (f : Byte → Instr) : List Byte → Decoded Instr
  | [b] => .ok (f b)
  | bs => .rejected (.payloadLength bs.length)

/-- SET_UNITY_OFFSET with its sixteen payload bytes; any other payload is rejected (R86, R90). -/
def withPayloadQuat (o : WordOrder) (f : Quat → Instr) (bs : List Byte) : Decoded Instr :=
  match quatOfBytes o bs with
  | some q => .ok (f q)
  | none => .rejected (.payloadLength bs.length)

/-- The instruction of a command with its payload; a payload of the wrong length is rejected (R86, R90 to R92). -/
def decodePayload (p : Params) (c : Command) (payload : List Byte) : Decoded Instr :=
  match c with
  | .ping => withoutPayload .ping payload
  | .readQuat => withoutPayload .readQuat payload
  | .setChipOffset => withoutPayload .setChipOffset payload
  | .setUnityOffset => withPayloadQuat p.wordOrder .setUnityOffset payload
  | .setAxis => withPayloadByte .setAxis payload
  | .setId => withPayloadByte .setId payload
  | .flash => withoutPayload .flash payload
  | .program => withPayloadByte .program payload
  | .readCompassAcc => withoutPayload .readCompassAcc payload

/-- The instruction of an opcode byte and its payload, on the host-to-device side (R89). -/
def decodeCommand (p : Params) (op : Byte) (payload : List Byte) : Decoded Instr :=
  match commandOf p op with
  | some c => decodePayload p c payload
  | none => .rejected (.unknownCommand op)

/-- A logical host-to-device frame `[sentinel][deviceId][opcode][payload...]` (R81): its address byte and its
instruction. -/
def decodeH2D (p : Params) : List Byte → Decoded (Byte × Instr)
  | s :: id :: op :: payload =>
    if s = p.sentinel then (decodeCommand p op payload).map fun i => (id, i)
    else .rejected (.noSentinel s)
  | _ => .rejected .truncated

/-- The instruction of a reply (R12). -/
def ReplyKind.instr : ReplyKind → Instr
  | .ack => .replyAck
  | .quat => .replyQuat
  | .compassAcc => .replyCompassAcc

/-- A logical device-to-host frame `[sentinel][opcode][payload...]` (R81): its instruction and its payload. -/
def decodeD2H (p : Params) : List Byte → Decoded (Instr × List Byte)
  | s :: op :: payload =>
    if s = p.sentinel then
      match replyOf p op with
      | some k =>
        if payload.length = k.payloadLen then .ok (k.instr, payload)
        else .rejected (.payloadLength payload.length)
      | none => .rejected (.unknownReply op)
    else .rejected (.noSentinel s)
  | _ => .rejected .truncated

/-! ## Byte stuffing (R83) -/

/-- `stuff(S)` of R83: every byte in order, a pad after each byte equal to the sentinel. -/
def stuff (p : Params) : List Byte → List Byte
  | [] => []
  | b :: bs => if b = p.sentinel then b :: p.pad :: stuff p bs else b :: stuff p bs

/-- `unstuff(W)` of R83 started with the escape flag `esc`. -/
def unstuffFrom (p : Params) : Bool → List Byte → List Byte
  | _, [] => []
  | true, _ :: bs => unstuffFrom p false bs
  | false, b :: bs => b :: unstuffFrom p (b == p.sentinel) bs

/-- `unstuff(W)` of R83. -/
def unstuff (p : Params) (ws : List Byte) : List Byte := unstuffFrom p false ws

/-! ## Encoding -/

/-- The compute request of a compute operation; the fields it does not use are zero (R96, R97). None for the
instructions of the wire. -/
def encodeCreq : Instr → Option Creq
  | .toFloat a => some ⟨0x0#4, bitsOfQuat (scalarQuat a), 0#128, 0#128, 0#9⟩
  | .fromFloat a => some ⟨0x1#4, bitsOfQuat (scalarQuat a), 0#128, 0#128, 0#9⟩
  | .mul a b => some ⟨0x2#4, bitsOfQuat (scalarQuat a), bitsOfQuat (scalarQuat b), 0#128, 0#9⟩
  | .square a => some ⟨0x3#4, bitsOfQuat (scalarQuat a), 0#128, 0#128, 0#9⟩
  | .sqrt a => some ⟨0x4#4, bitsOfQuat (scalarQuat a), 0#128, 0#128, 0#9⟩
  | .qcopy a => some ⟨0x8#4, bitsOfQuat a, 0#128, 0#128, 0#9⟩
  | .qinv a => some ⟨0x9#4, bitsOfQuat a, 0#128, 0#128, 0#9⟩
  | .qmul l r => some ⟨0xA#4, bitsOfQuat l, bitsOfQuat r, 0#128, 0#9⟩
  | .qlmul l r => some ⟨0xB#4, bitsOfQuat l, bitsOfQuat r, 0#128, 0#9⟩
  | .qrmul l r => some ⟨0xC#4, bitsOfQuat l, bitsOfQuat r, 0#128, 0#9⟩
  | .qremap q ax => some ⟨0xD#4, bitsOfQuat q, 0#128, 0#128, bitsOfAxis ax⟩
  | .qpipe chip raw unity ax => some ⟨0xE#4, bitsOfQuat chip, bitsOfQuat raw, bitsOfQuat unity, bitsOfAxis ax⟩
  | .ping => none
  | .readQuat => none
  | .setChipOffset => none
  | .setUnityOffset _ => none
  | .setAxis _ => none
  | .setId _ => none
  | .flash => none
  | .program _ => none
  | .readCompassAcc => none
  | .replyAck => none
  | .replyQuat => none
  | .replyCompassAcc => none

/-- The command and the payload bytes of a host-to-device instruction (R86, R90 to R92). -/
def commandParts (p : Params) : Instr → Option (Command × List Byte)
  | .ping => some (.ping, [])
  | .readQuat => some (.readQuat, [])
  | .setChipOffset => some (.setChipOffset, [])
  | .setUnityOffset q => some (.setUnityOffset, quatBytes p.wordOrder q)
  | .setAxis a => some (.setAxis, [a])
  | .setId n => some (.setId, [n])
  | .flash => some (.flash, [])
  | .program n => some (.program, [n])
  | .readCompassAcc => some (.readCompassAcc, [])
  | .toFloat _ => none
  | .fromFloat _ => none
  | .mul _ _ => none
  | .square _ => none
  | .sqrt _ => none
  | .qcopy _ => none
  | .qinv _ => none
  | .qmul _ _ => none
  | .qlmul _ _ => none
  | .qrmul _ _ => none
  | .qremap _ _ => none
  | .qpipe _ _ _ _ => none
  | .replyAck => none
  | .replyQuat => none
  | .replyCompassAcc => none

/-- The logical frame of a command sent to the node `id` (R81). -/
def encodeH2D (p : Params) (id : Byte) (i : Instr) : Option (List Byte) :=
  (commandParts p i).map fun cp => p.sentinel :: id :: commandByte p cp.1 :: cp.2

/-- The logical frame of a reply with its payload (R81). -/
def encodeD2H (p : Params) (k : ReplyKind) (payload : List Byte) : List Byte :=
  p.sentinel :: replyByte p k :: payload

/-- An encoded instruction: a compute request, or the logical bytes of a frame in one of the two directions. -/
inductive Encoded where
  | creq (r : Creq)
  | h2d (bs : List Byte)
  | d2h (bs : List Byte)
  deriving DecidableEq, Repr

/-- The parts of a frame that are not the instruction's own: the address byte of a command frame and the payload of a
reply frame, which the registers of the sender give (R81, R223, R228, R229). -/
structure Envelope where
  deviceId : Byte
  replyPayload : List Byte
  deriving DecidableEq, Repr

/-- The reply of a device-to-host instruction (R12). -/
def replyKindOf : Instr → Option ReplyKind
  | .replyAck => some .ack
  | .replyQuat => some .quat
  | .replyCompassAcc => some .compassAcc
  | .toFloat _ => none
  | .fromFloat _ => none
  | .mul _ _ => none
  | .square _ => none
  | .sqrt _ => none
  | .qcopy _ => none
  | .qinv _ => none
  | .qmul _ _ => none
  | .qlmul _ _ => none
  | .qrmul _ _ => none
  | .qremap _ _ => none
  | .qpipe _ _ _ _ => none
  | .ping => none
  | .readQuat => none
  | .setChipOffset => none
  | .setUnityOffset _ => none
  | .setAxis _ => none
  | .setId _ => none
  | .flash => none
  | .program _ => none
  | .readCompassAcc => none

/-- The encoding of an instruction in its own format (R81, R96). -/
def encode (p : Params) (e : Envelope) (i : Instr) : Option Encoded :=
  match i.format with
  | .creq => (encodeCreq i).map .creq
  | .h2d => (encodeH2D p e.deviceId i).map .h2d
  | .d2h => (replyKindOf i).map fun k => .d2h (encodeD2H p k e.replyPayload)

/-- The instruction an encoding stands for, rejected by name where there is none (R84, R86, R97, R98). -/
def decode (p : Params) : Encoded → Decoded Instr
  | .creq r => decodeCreq r
  | .h2d bs => (decodeH2D p bs).map fun r => r.2
  | .d2h bs => (decodeD2H p bs).map fun r => r.1

/-! ## Words of the opcode table -/

/-- The format in which a word of the opcode table is read. A word of at most four bits is the `OP` of a compute
request. A wider word is an opcode byte where its low byte is one, of a command or of a reply, and else again an `OP`
(notes/assumptions/2.md: the table numbers both kinds of row from 0). -/
def tableFormat (p : Params) (nbits w : Nat) : Format :=
  if nbits ≤ 4 then .creq
  else if (commandOf p (BitVec.ofNat 8 w)).isSome then .h2d
  else if (replyOf p (BitVec.ofNat 8 w)).isSome then .d2h
  else .creq

/-- Payload byte `k` of a table word: bits `8(k+1)+7 .. 8(k+1)`, zero above `nbits`. -/
def tablePayload (nbits w n : Nat) : List Byte :=
  (List.range n).map fun k => BitVec.ofNat 8 (w % 2 ^ nbits / 2 ^ (8 * (k + 1)))

/-- The compute request of a table word: its `OP`, every operand zero. -/
def tableCreq (w : Nat) : Creq := ⟨BitVec.ofNat 4 w, 0#128, 0#128, 0#128, 0#9⟩

/-- The encoding of a table word: the request, or the frame with its payload bytes. -/
def tableEncoded (p : Params) (nbits w : Nat) : Encoded :=
  match tableFormat p nbits w with
  | .creq => .creq (tableCreq w)
  | .h2d =>
    .h2d (p.sentinel :: p.factoryId :: BitVec.ofNat 8 w ::
      tablePayload nbits w (((commandOf p (BitVec.ofNat 8 w)).map Command.payloadLen).getD 0))
  | .d2h =>
    .d2h (p.sentinel :: BitVec.ofNat 8 w ::
      tablePayload nbits w (((replyOf p (BitVec.ofNat 8 w)).map ReplyKind.payloadLen).getD 0))

/-- The instruction the decoder reads from a word of the opcode table, with the default parameters. -/
def decodeTableWord (nbits w : Nat) : Option Instr :=
  (decode defaultParams (tableEncoded defaultParams nbits w)).toOption

end Sys2Proof
end

