-- ==== Sys2Proof/Machine/State.lean ====
section
/-! DEFINITION. The state of the block (spec 10_state.md R22 to R54), of the storage collaborator behind the STOR port
(20_memory.md R67 to R71), and the port transactions still to come and already answered; the faults and refusals; the
state after reset (R53, R270). -/

namespace Sys2Proof.Machine

open Sys2Proof

/-- The protocol state `STATE`, one of the twelve values of R25. -/
inductive ProtoState where
  | waitHeader
  | waitId
  | waitCommand
  | waitUnityOffset
  | waitAxis
  | waitNewId
  | waitNumPages
  | replyAck
  | replyQuaternion
  | replyCompassAccuracy
  | flashing
  | downloadingFirmware
  deriving DecidableEq, Repr

/-- The link direction `DIR` (R31). -/
inductive LinkDir where
  | rx
  | tx
  deriving DecidableEq, Repr

/-- A port transaction, one atomic step of the block (R9, R247, R250). -/
inductive Event where
  /-- A compute request on the CP port (R96). -/
  | cp (r : Creq)
  /-- `RX_BYTE(b)` on the LINK port (R161). -/
  | rxByte (b : Byte)
  /-- `TX_READY` on the LINK port (R161). -/
  | txReady
  /-- `TX_IDLE` on the LINK port (R161). -/
  | txIdle
  /-- `SAMPLE(q)` on the SENS port (R224). -/
  | sample (q : Quat)
  /-- `COMPASS(level)` on the SENS port; the level may be wider than two bits (R226). -/
  | compass (level : Nat)
  /-- `FW_DONE` on the SENS port (R227). -/
  | fwDone
  /-- `RESET` on the RST port (R270). -/
  | reset
  deriving DecidableEq, Repr

/-- The persisted configuration record: seven bytes, one field a byte, held as stored (R67). -/
structure ConfigRecord where
  devId : Byte
  xs : Byte
  xi : Byte
  ys : Byte
  yi : Byte
  zs : Byte
  zi : Byte
  deriving DecidableEq, Repr

/-- The factory record: the factory identity and the identity axis mapping (R67). -/
def factoryRecord (p : Params) : ConfigRecord := ⟨p.factoryId, 0#8, 0#8, 0#8, 1#8, 0#8, 2#8⟩

/-- Program memory of the storage collaborator, as (key, byte) pairs. Byte `j` of page `i` has the key
`64 * i + j`; the key names a page and a byte in it and is no address of the node (R70). -/
abbrev Memory := List Host.Cell

/-- Everything the spec gives the machine. The comment of each field names its register and its rule. -/
structure State where
  /-- The implementation parameters (R13); no step writes them. -/
  params : Params
  /-- `Q_RAW`, the raw sample (R23). -/
  qRaw : Quat
  /-- `Q_CHIP`, the chip offset (R23). -/
  qChip : Quat
  /-- `Q_UNITY`, the unity offset (R23). -/
  qUnity : Quat
  /-- `Q_OUT`, the cached output quaternion (R23). -/
  qOut : Quat
  /-- `STATE` (R25). -/
  proto : ProtoState
  /-- `DEV_ID` (R26). -/
  devId : Byte
  /-- `AXIS` (R27). -/
  axis : Axis
  /-- `COMPASS_ACC` (R28). -/
  compassAcc : BitVec 2
  /-- `FW_DONE` (R29). -/
  fwDone : Bool
  /-- `DIR` (R31). -/
  dir : LinkDir
  /-- `RX_ESC` (R32). -/
  rxEsc : Bool
  /-- `RX_ARMED` (R33). -/
  rxArmed : Bool
  /-- `RX_LEN` (R34). -/
  rxLen : BitVec 7
  /-- `RX_CNT` (R35). -/
  rxCnt : BitVec 7
  /-- `RX_BUF` (R40). -/
  rxBuf : List Byte
  /-- `TX_ACTIVE` (R41). -/
  txActive : Bool
  /-- `TX_LEN` (R42). -/
  txLen : BitVec 5
  /-- `TX_CNT` (R43). -/
  txCnt : BitVec 5
  /-- `TX_PAD` (R44). -/
  txPad : Bool
  /-- `TX_BUF` (R45). -/
  txBuf : List Byte
  /-- `TX_DRAIN` (R46). -/
  txDrain : Bool
  /-- `PAGES` (R47). -/
  pages : BitVec 8
  /-- `PAGE_IDX` (R48). -/
  pageIdx : BitVec 8
  /-- The configuration record of the storage collaborator (R67). -/
  record : ConfigRecord
  /-- The program memory of the storage collaborator (R70). -/
  progMem : Memory
  /-- Model's own: for each storage write still to come, whether it takes effect; where the list ends every write
  does (R71, notes/assumptions/6.md). -/
  storResults : List Bool
  /-- Model's own: the port transactions still to come, in the order of their steps (R251,
  notes/assumptions/1.md). -/
  events : List Event
  /-- Model's own: the bytes emitted on the LINK port so far, oldest first (R17, R74, notes/assumptions/11.md). -/
  wireOut : List Byte
  /-- Model's own: the results returned on the CP port so far, oldest first (R96, notes/assumptions/11.md). -/
  cpOut : List Quat
  /-- Model's own: how often `REBOOT_REQ` has been signalled (R221, notes/assumptions/11.md). -/
  rebootReqs : Nat
  deriving DecidableEq, Repr

/-- The block raises no exception and stops with no fault: "The block raises no synchronous exception" (R240). The
type has no constructor, so no step of the model faults. -/
inductive Fault where
  deriving DecidableEq, Repr

/-- Why a step has no next state. Every refusal is safe: the model stops where the spec gives no meaning or where
only a state that no run reaches could lead. -/
inductive Refusal where
  /-- An instruction without a meaning in exec. Raised by exec's arms only; no arm raises it now. Safe. -/
  | notModelled (mnemonic : String)
  /-- A compute request with a reserved `OP`: "A request with a reserved OP is refused" (R98). Raised by the CP
  event. Safe. -/
  | reservedOp (op : BitVec 4)
  /-- `Send` or `Arm` called against its precondition, a "caller bug" that the sequencer never commits (R166, R170,
  R176). Raised by `Send` and `Arm`, in unreachable states only. Safe. -/
  | transferOutstanding
  /-- `Send` or `Arm` with a length outside its buffer (R166, R170). Raised by `Send` and `Arm`, in states only whose
  parameters break the constraints of 00_scope.md R13. Safe. -/
  | lengthOutsideBuffer (n : Nat)
  /-- A buffer index outside the buffer: "RX_BUF_SIZE is never exceeded" (R175). Raised by the codec and the payload
  rules, in unreachable states only. Safe. -/
  | bufferIndex (n : Nat)
  /-- A receive completed in a state in which none is armed: "unreachable (no receive is armed in these states)"
  (R192). Raised by `rxdone`, in unreachable states only. Safe. -/
  | receiveInState (st : ProtoState)
  deriving DecidableEq, Repr

/-- The outcome of a step or of an instruction. -/
abbrev Result := Host.Outcome State Fault Refusal

/-- The machine right after reset (R53, R270): a node with the default parameters whose storage holds the factory
record (R68) and whose ports have seen nothing. -/
def State.reset : State where
  params := defaultParams
  qRaw := identityQuat
  qChip := identityQuat
  qUnity := identityQuat
  qOut := identityQuat
  proto := .waitHeader
  devId := 0x01#8
  axis := factoryAxis
  compassAcc := 0#2
  fwDone := false
  dir := .rx
  rxEsc := false
  rxArmed := true
  rxLen := 1#7
  rxCnt := 0#7
  rxBuf := List.replicate 64 0#8
  txActive := false
  txLen := 0#5
  txCnt := 0#5
  txPad := false
  txBuf := List.replicate 18 0#8
  txDrain := false
  pages := 0#8
  pageIdx := 0#8
  record := factoryRecord defaultParams
  progMem := []
  storResults := []
  events := []
  wireOut := []
  cpOut := []
  rebootReqs := 0

/-- `FW_START`, the level output of the SENS port: 1 exactly while `STATE = DownloadingFirmware` (R49). -/
def State.fwStart (s : State) : Bool := s.proto == .downloadingFirmware

end Sys2Proof.Machine
end

