-- ==== Sys2Proof/Machine/Flags.lean ====
section
/-! DEFINITION. The one-bit control flags the rules compute (spec 10_state.md R30: there is no arithmetic flag). Each
function gives the new value of one flag from what the rule reads. -/

namespace Sys2Proof.Machine

open Sys2Proof

/-- `RX_ESC` after a data byte: set where the byte equals the sentinel, else as it was (R174; the data case is taken
with the flag clear, R173). -/
def nextRxEsc (p : Params) (esc : Bool) (b : Byte) : Bool := esc || b == p.sentinel

/-- `TX_PAD` after a byte of the frame: set where the byte equals the sentinel (R167; the case is taken with the flag
clear). -/
def nextTxPad (p : Params) (b : Byte) : Bool := b == p.sentinel

/-- `TX_DRAIN` after a byte or a pad: set where the whole frame and its last pad are out (R167; the case is taken with
the flag clear). -/
def nextTxDrain (cnt len : BitVec 5) (pad : Bool) : Bool := cnt == len && !pad

/-- The state a header hunt goes to on the byte `b` (R191). -/
def headerState (p : Params) (b : Byte) : ProtoState := if b = p.sentinel then .waitId else .waitHeader

end Sys2Proof.Machine
end

