-- ==== Sys2Proof/Machine/Q30.lean ====
section
/-! DEFINITION. The Q30 scalar unit as functions of words: the notation of spec 00_scope.md R15 and R16, the 32-bit sums
of 40_q30_alu.md R111, and the five operations of R112 to R129. Every intermediate value is an unbounded integer that is
narrowed where the rule narrows it. -/

namespace Sys2Proof.Machine

open Sys2Proof

/-- `s32(v)`: the word as a two's-complement integer (R15). -/
def s32 (v : Word) : Int := v.toInt

/-- `wrap32(n)`: the word whose unsigned value is `n mod 2^32` (R15). -/
def wrap32 (n : Int) : Word := BitVec.ofInt 32 n

/-- `asr(n, k)`: the floor of `n / 2^k` (R16). -/
def asr (n : Int) (k : Nat) : Int := n / 2 ^ k

/-- `lsr(n, k)`: the floor of `n / 2^k` on an unsigned integer (R16). -/
def lsr (n k : Nat) : Nat := n / 2 ^ k

/-- `shl32(n, k)`: the word of `n * 2^k` (R16). -/
def shl32 (n k : Nat) : Word := BitVec.ofNat 32 (n * 2 ^ k)

/-- `clz32(v)`: the number of leading zero bits, 32 for the zero word (R16). -/
def clz32 (v : Word) : Nat := if v = 0#32 then 32 else 31 - v.toNat.log2

/-- `ADD(a, b)`, wrapping (R111). -/
def addW (a b : Word) : Word := wrap32 (s32 a + s32 b)

/-- `SUB(a, b)`, wrapping (R111). -/
def subW (a b : Word) : Word := wrap32 (s32 a - s32 b)

/-- `NEG(a)`, wrapping (R111). -/
def negW (a : Word) : Word := wrap32 (-(s32 a))

/-- The unsigned magnitude of a Q30 word, 2^31 for `0x80000000` (R112). -/
def magnitude (a : Word) : Word := if a.msb then wrap32 (-(s32 a)) else a

/-- TOFLOAT (R112). -/
def toFloatW (a : Word) : Word :=
  if a = 0#32 then 0#32
  else
    let n := clz32 (magnitude a)
    let norm := shl32 (magnitude a).toNat n
    BitVec.ofBool a.msb ++ BitVec.ofNat 8 (128 - n) ++ norm.extractLsb' 8 23

/-- The 24-bit significand `{1, F}` of an IEEE-754 single bit pattern (R115). -/
def significand (f : Word) : Nat := 0x800000 + (f.extractLsb' 0 23).toNat

/-- The biased exponent field `f[30:23]` (R114). -/
def exponentField (f : Word) : Nat := (f.extractLsb' 23 8).toNat

/-- FROMFLOAT (R115). -/
def fromFloatW (f : Word) : Word :=
  let m := significand f
  let e := exponentField f
  let mag := if 120 ≤ e then shl32 m (e - 120) else BitVec.ofNat 32 (lsr m (120 - e))
  if f.msb then wrap32 (-(mag.toNat : Int)) else mag

/-- The signed high half of a word (R118). -/
def highHalf (a : Word) : Int := asr (s32 a) 16

/-- The unsigned low half of a word, `a[15:0]` (R118). -/
def lowHalf (a : Word) : Int := ((a.extractLsb' 0 16).toNat : Int)

/-- MUL: four 16-bit partial products, each shifted on its own (R118). -/
def mulW (a b : Word) : Word :=
  let hh := highHalf a * highHalf b
  let hl := highHalf a * lowHalf b
  let lh := lowHalf a * highHalf b
  let ll := lowHalf a * lowHalf b
  wrap32 (hh * 4 + asr hl 14 + asr lh 14 + ((lsr ll.toNat 30 : Nat) : Int))

/-- SQUARE: the split technique of MUL with both operands equal (R122). -/
def squareW (a : Word) : Word := mulW a a

/-- The normalisation shift `k` of SQRT: `clz32(a) - 2`, reduced by one where it is odd (R124). -/
def sqrtShift (a : Word) : Nat :=
  let s := clz32 a - 2
  if s % 2 = 1 then s - 1 else s

/-- The polynomial SQRT uses: ODD where `clz32(a) - 2` is odd, else EVEN (R124). -/
def sqrtSet (p : Params) (a : Word) : SqrtSet :=
  if (clz32 a - 2) % 2 = 1 then p.sqrtOdd else p.sqrtEven

/-- The five-term polynomial in Horner form, with the split multiply (R124). -/
def horner (c : SqrtSet) (t : Word) : Word :=
  addW c.c0 (mulW t (addW c.c1 (mulW t (addW c.c2 (mulW t (addW c.c3 (mulW t c.c4)))))))

/-- The computed branch of SQRT, for `0 < a < 1.0` (R124). -/
def sqrtPoly (p : Params) (a : Word) : Word :=
  let k := sqrtShift a
  let y := shl32 a.toNat k
  let c := sqrtSet p a
  wrap32 (asr (s32 (horner c (subW y c.anchor))) (k / 2))

/-- SQRT (R124): zero for a negative word (R129) and for zero, pass-through from 1.0 up (R128), else the
polynomial. -/
def sqrtW (p : Params) (a : Word) : Word :=
  if s32 a < 0 then 0#32
  else if a = 0#32 then 0#32
  else if 0x40000000 ≤ s32 a then a
  else sqrtPoly p a

end Sys2Proof.Machine
end

