-- ==== Sys2Proof/Machine/Operands.lean ====
section
/-! DEFINITION. The operand forms of the block that are more than a field of an encoding: the signed component an axis
field picks (spec 41_quaternion.md R150), and the fields of registers as bytes and back (20_memory.md R67,
30_encoding.md R93). -/

namespace Sys2Proof.Machine

open Sys2Proof

/-- Component `i` of the vector part; component 3 is the constant zero (R150, R151). -/
def component (q : Quat) (i : BitVec 2) : Word :=
  match i.toNat with
  | 0 => q.x
  | 1 => q.y
  | 2 => q.z
  | _ => 0#32

/-- `pick(S, I)`: the component, negated where the sign field is 1 (R150). -/
def pick (q : Quat) (sign : Bool) (i : BitVec 2) : Word :=
  if sign then negW (component q i) else component q i

/-- A sign field as the byte that stores it, other bits zero (R67). -/
def signByte (b : Bool) : Byte := if b then 1#8 else 0#8

/-- An index field or the compass level as a byte, `zext_8` (R67, R93). -/
def fieldByte (v : BitVec 2) : Byte := v.setWidth 8

/-- A stored sign byte truncated to its field (R68, R270). -/
def byteSign (b : Byte) : Bool := b.getLsbD 0

/-- A stored index byte truncated to its field (R68, R270). -/
def byteField (b : Byte) : BitVec 2 := b.extractLsb' 0 2

end Sys2Proof.Machine
end

