-- ==== Sys2Proof/Machine/Quat.lean ====
section
/-! DEFINITION. The quaternion engine as functions of quaternions (spec 41_quaternion.md R141 to R153), on the split
multiply and the wrapping sums of the scalar unit. -/

namespace Sys2Proof.Machine

open Sys2Proof

/-- QCOPY (R141). -/
def qcopyQ (a : Quat) : Quat := ⟨a.w, a.x, a.y, a.z⟩

/-- QINV: the vector part negated, the scalar part kept (R142). -/
def qinvQ (a : Quat) : Quat := ⟨a.w, negW a.x, negW a.y, negW a.z⟩

/-- QMUL: the Hamilton product, the sums taken from the left (R144). -/
def qmulQ (l r : Quat) : Quat where
  w := subW (subW (subW (mulW l.w r.w) (mulW l.x r.x)) (mulW l.y r.y)) (mulW l.z r.z)
  x := subW (addW (addW (mulW l.w r.x) (mulW l.x r.w)) (mulW l.y r.z)) (mulW l.z r.y)
  y := addW (addW (subW (mulW l.w r.y) (mulW l.x r.z)) (mulW l.y r.w)) (mulW l.z r.x)
  z := addW (subW (addW (mulW l.w r.z) (mulW l.x r.y)) (mulW l.y r.x)) (mulW l.z r.w)

/-- QLMUL: the new left operand, from a snapshot of the old one (R146, R148). -/
def qlmulQ (l r : Quat) : Quat :=
  let snapshot := qcopyQ l
  qmulQ snapshot r

/-- QRMUL: the new right operand, from a snapshot of the old one (R147, R148). -/
def qrmulQ (l r : Quat) : Quat :=
  let snapshot := qcopyQ r
  qmulQ l snapshot

/-- QREMAP: the signed axis remap, the scalar part kept (R150). -/
def qremapQ (q : Quat) (ax : Axis) : Quat :=
  ⟨q.w, pick q ax.xs ax.xi, pick q ax.ys ax.yi, pick q ax.zs ax.zi⟩

/-- QPIPE: chip offset on the left, then the remap, then unity offset on the right (R152). -/
def qpipeQ (chip raw unity : Quat) (ax : Axis) : Quat :=
  qmulQ (qremapQ (qmulQ chip raw) ax) unity

end Sys2Proof.Machine
end

