-- ==== Sys2Proof/Machine/Ops.lean ====
section
/-! DEFINITION. The operations the rules share: program memory as one canonical list, the storage calls (spec
20_memory.md R68 to R71), the codec's procedures `Send` and `Arm` (42_codec.md R166, R170), replies (43_protocol.md
R222, R223), RESET and Reboot (70_reset_and_hazards.md R270, 43_protocol.md R221), and the result of a compute request
(30_encoding.md R96). The block has no exception to take and none to return from (60_exceptions.md R240, R253, R254). -/

namespace Sys2Proof.Machine

open Sys2Proof

/-- Continue with the next state of an outcome. -/
def andThen (o : Result) (f : State → Result) : Result :=
  match o with
  | .next s => f s
  | .fault r => .fault r
  | .refused r => .refused r

/-! ## Program memory (R70) -/

/-- Every key of the list is above `k`, and the keys rise strictly. -/
def Memory.rising (k : Nat) : Memory → Bool
  | [] => true
  | (a, _) :: m => decide (k < a) && Memory.rising a m

/-- The canonical form of a memory: the keys rise strictly. An unlisted key reads as no byte, so every listed byte
differs from what an unlisted key reads as. -/
def Memory.wf : Memory → Bool
  | [] => true
  | (a, _) :: m => Memory.rising a m

/-- The byte at a key; none where nothing has been written (R70). -/
def memRead : Memory → Nat → Option Byte
  | [], _ => none
  | (a, b) :: m, k => if a = k then some b else memRead m k

/-- Write one byte at a key, keeping the canonical form. -/
def memWrite : Memory → Nat → Byte → Memory
  | [], k, v => [(k, v)]
  | (a, b) :: m, k, v =>
    if k < a then (k, v) :: (a, b) :: m
    else if k = a then (k, v) :: m
    else (a, b) :: memWrite m k v

/-- Write a list of bytes from a key up. -/
def memWriteBytes : Memory → Nat → List Byte → Memory
  | m, _, [] => m
  | m, k, v :: vs => memWriteBytes (memWrite m k v) (k + 1) vs

/-- The key of the first byte of page `i` (R70, R95). -/
def pageKey (i : BitVec 8) : Nat := i.toNat * pageSize

/-! ## Storage calls -/

/-- Whether the next storage write takes effect (R71, notes/assumptions/6.md). -/
def storTakes (s : State) : Bool := s.storResults.headD true

/-- `StorWrite(rec)`: the stored record becomes `rec`, unless the collaborator fails silently (R69, R71). -/
def storWrite (rec : ConfigRecord) (s : State) : State :=
  { s with
    record := if storTakes s then rec else s.record
    storResults := s.storResults.tail }

/-- `StorProgram(i, page)`: page `i` of program memory becomes `page`, unless the collaborator fails silently (R70,
R71). DESIGN CHOICE: R70 leaves open whether an erase precedes the write; here nothing is erased, and every other page,
one of an earlier Program run too, keeps its bytes (unsafe, notes/assumptions/18.md; the keys notes/assumptions/7.md). -/
def storProgram (i : BitVec 8) (page : List Byte) (s : State) : State :=
  { s with
    progMem := if storTakes s then memWriteBytes s.progMem (pageKey i) page else s.progMem
    storResults := s.storResults.tail }

/-- The record FLASH stores: `DEV_ID` and the six axis fields, one a byte (R67, R211). -/
def currentRecord (s : State) : ConfigRecord :=
  ⟨s.devId, signByte s.axis.xs, fieldByte s.axis.xi, signByte s.axis.ys, fieldByte s.axis.yi, signByte s.axis.zs,
    fieldByte s.axis.zi⟩

/-- The axis fields a loaded record gives, each byte truncated to its field (R68, R270). -/
def recordAxis (rec : ConfigRecord) : Axis :=
  ⟨byteSign rec.xs, byteField rec.xi, byteSign rec.ys, byteField rec.yi, byteSign rec.zs, byteField rec.zi⟩

/-! ## Sequencing -/

/-- `STATE <- st` (R24, R25). -/
def setProto (st : ProtoState) (s : State) : State := { s with proto := st }

/-! ## The codec's procedures -/

/-- The writes of `Arm(n)` (R170). -/
def armed (n : Nat) (s : State) : State :=
  { s with rxLen := BitVec.ofNat 7 n, rxCnt := 0#7, rxArmed := true }

/-- No transfer is in flight: the preconditions of `Send` and `Arm` on the two flags (R166, R170). -/
def noTransfer (s : State) : Bool := !s.txActive && !s.rxArmed

/-- `Arm(n)` with its precondition: no transfer in flight, the link in receive mode, `1 <= n <= RX_BUF_SIZE`
(R170, R176). -/
def arm (n : Nat) (s : State) : Result :=
  if noTransfer s && s.dir == .rx then
    if 1 ≤ n ∧ n ≤ s.params.rxBufSize then .next (armed n s) else .refused (.lengthOutsideBuffer n)
  else .refused .transferOutstanding

/-- The writes of `Send(frame)` (R166). -/
def sending (frame : List Byte) (s : State) : State :=
  { s with
    txBuf := frame ++ s.txBuf.drop frame.length
    txLen := BitVec.ofNat 5 frame.length
    txCnt := 0#5
    txPad := false
    txDrain := false
    txActive := true
    dir := .tx }

/-- `Send(frame)` with its precondition: no transfer in flight and `1 <= len(frame) <= TX_BUF_SIZE` (R166, R176). -/
def send (frame : List Byte) (s : State) : Result :=
  if noTransfer s then
    if 1 ≤ frame.length ∧ frame.length ≤ s.params.txBufSize then .next (sending frame s)
    else .refused (.lengthOutsideBuffer frame.length)
  else .refused .transferOutstanding

/-! ## Replies -/

/-- `Reply(opcode, payload, next)`: the frame is built whole and handed to `Send`, then `STATE <- next` (R222). -/
def reply (k : ReplyKind) (payload : List Byte) (st : ProtoState) (s : State) : Result :=
  andThen (send (encodeD2H s.params k payload) s) fun t => .next (setProto st t)

/-- `Ack(next)`: a REPLY_ACK frame, its payload byte always `ACK_SUCCESS` (R223). -/
def ack (st : ProtoState) (s : State) : Result := reply .ack [s.params.ackSuccess] st s

/-- The payload of REPLY_QUAT: the four components of `Q_OUT` as IEEE-754 singles (R94, R202, R228). -/
def quatPayload (s : State) : List Byte :=
  quatBytes s.params.wordOrder ⟨toFloatW s.qOut.w, toFloatW s.qOut.x, toFloatW s.qOut.y, toFloatW s.qOut.z⟩

/-- A REPLY_QUAT frame of `Q_OUT` (R228). -/
def sendQuat (s : State) : Result := reply .quat (quatPayload s) .replyQuaternion s

/-- A REPLY_COMPASS_ACC frame of `COMPASS_ACC` (R229). -/
def sendCompassAcc (s : State) : Result :=
  reply .compassAcc [fieldByte s.compassAcc] .replyCompassAccuracy s

/-! ## RESET and Reboot -/

/-- Event RESET: the record is loaded and every element takes its reset value; `RX_BUF` and `TX_BUF` are left as they
were (R270). Storage and the ports are outside the block and stay (R273). -/
def resetBlock (s : State) : State :=
  { s with
    devId := s.record.devId
    axis := recordAxis s.record
    qRaw := identityQuat
    qChip := identityQuat
    qUnity := identityQuat
    qOut := identityQuat
    compassAcc := 0#2
    fwDone := false
    dir := .rx
    rxEsc := false
    txActive := false
    txPad := false
    txDrain := false
    txLen := 0#5
    txCnt := 0#5
    pages := 0#8
    pageIdx := 0#8
    proto := .waitHeader
    rxLen := 1#7
    rxCnt := 0#7
    rxArmed := true }

/-- `Reboot()`: `REBOOT_REQ` is signalled and RESET performed in the same step (R221). -/
def reboot (s : State) : State := resetBlock { s with rebootReqs := s.rebootReqs + 1 }

/-! ## The CP port -/

/-- A compute request is answered with the result `r`; no other state changes (R22, R96). -/
def cpReturned (r : Quat) (s : State) : State := { s with cpOut := s.cpOut ++ [r] }

/-- The outcome of a compute operation whose result is a quaternion (R96). -/
def returnQuat (r : Quat) (s : State) : Result := .next (cpReturned r s)

/-- The outcome of a compute operation whose result is a word: it stands in `R.w`, the rest is zero (R96). -/
def returnWord (r : Word) (s : State) : Result := .next (cpReturned (scalarQuat r) s)

end Sys2Proof.Machine
end

