-- ==== Sys2Proof/Machine/Commands.lean ====
section
/-! DEFINITION. The meanings of the nine commands (spec 43_protocol.md R200 to R217): what the block does in the step
that executes the command, that of its opcode byte for a command without payload and that of its last payload byte for
one with payload (R198). The state a meaning starts from is that of `rxdone`: the receive is complete, none is armed. -/

namespace Sys2Proof.Machine

open Sys2Proof

/-- PING (R200). -/
def execPing (s : State) : Result := ack .replyAck s

/-- READ_QUAT (R202). -/
def execReadQuat (s : State) : Result := sendQuat s

/-- SET_CHIP_OFFSET: `Q_CHIP <- QINV(Q_RAW)` (R203). -/
def execSetChipOffset (s : State) : Result := ack .replyAck { s with qChip := qinvQ s.qRaw }

/-- SET_UNITY_OFFSET: `Q_UNITY` takes the four payload words (R205). -/
def execSetUnityOffset (q : Quat) (s : State) : Result := ack .replyAck { s with qUnity := q }

/-- SET_AXIS: the six axis fields from the byte, the Z index derived (R207). -/
def execSetAxis (a : Byte) (s : State) : Result := ack .replyAck { s with axis := axisOfByte a }

/-- SET_ID (R209). -/
def execSetId (n : Byte) (s : State) : Result := ack .replyAck { s with devId := n }

/-- FLASH: the current identity and axis fields are stored, then acknowledged (R211). -/
def execFlash (s : State) : Result := ack .replyAck (storWrite (currentRecord s) s)

/-- PROGRAM: the page count; no page reboots at once, else the page loop starts (R213, R214). -/
def execProgram (n : Byte) (s : State) : Result :=
  let t : State := { s with pages := n, pageIdx := 0#8 }
  if n = 0#8 then .next (reboot t) else arm pageSize (setProto .flashing t)

/-- READ_COMPASS_ACC: the level is sent and then cleared (R217). -/
def execReadCompassAcc (s : State) : Result :=
  andThen (sendCompassAcc s) fun t => .next { t with compassAcc := 0#2 }

end Sys2Proof.Machine
end

