-- ==== Sys2Proof/Machine/Quaternion.lean ====
section
/-! DEFINITION. The meanings of the seven quaternion compute operations (spec 41_quaternion.md). -/

namespace Sys2Proof.Machine

open Sys2Proof

/-- QCOPY (R141). -/
def execQcopy (a : Quat) (s : State) : Result := returnQuat (qcopyQ a) s

/-- QINV (R142). -/
def execQinv (a : Quat) (s : State) : Result := returnQuat (qinvQ a) s

/-- QMUL (R144). -/
def execQmul (l r : Quat) (s : State) : Result := returnQuat (qmulQ l r) s

/-- QLMUL (R146). -/
def execQlmul (l r : Quat) (s : State) : Result := returnQuat (qlmulQ l r) s

/-- QRMUL (R147). -/
def execQrmul (l r : Quat) (s : State) : Result := returnQuat (qrmulQ l r) s

/-- QREMAP (R150). -/
def execQremap (q : Quat) (ax : Axis) (s : State) : Result := returnQuat (qremapQ q ax) s

/-- QPIPE (R152); as a CP request it touches no register. -/
def execQpipe (chip raw unity : Quat) (ax : Axis) (s : State) : Result := returnQuat (qpipeQ chip raw unity ax) s

end Sys2Proof.Machine
end

