-- ==== Sys2Proof/Machine/Replies.lean ====
section
/-! DEFINITION. The meanings of the three device-to-host replies (spec 43_protocol.md R223, R228, R229): the block
builds the frame from its registers and starts to send it. -/

namespace Sys2Proof.Machine

open Sys2Proof

/-- REPLY_ACK, as every command sends it (R223); a page acknowledgement differs in the state only (R219). -/
def execReplyAck (s : State) : Result := ack .replyAck s

/-- REPLY_QUAT (R228). -/
def execReplyQuat (s : State) : Result := sendQuat s

/-- REPLY_COMPASS_ACC (R229). -/
def execReplyCompassAcc (s : State) : Result := sendCompassAcc s

end Sys2Proof.Machine
end

