-- ==== Sys2Proof/Machine/Scalar.lean ====
section
/-! DEFINITION. The meanings of the five scalar compute operations (spec 40_q30_alu.md). -/

namespace Sys2Proof.Machine

open Sys2Proof

/-- TOFLOAT (R112). -/
def execToFloat (a : Word) (s : State) : Result := returnWord (toFloatW a) s

/-- FROMFLOAT (R115). -/
def execFromFloat (a : Word) (s : State) : Result := returnWord (fromFloatW a) s

/-- MUL (R118). -/
def execMul (a b : Word) (s : State) : Result := returnWord (mulW a b) s

/-- SQUARE (R122). -/
def execSquare (a : Word) (s : State) : Result := returnWord (squareW a) s

/-- SQRT (R124), with the machine's square-root parameters (R126, R127). -/
def execSqrt (a : Word) (s : State) : Result := returnWord (sqrtW s.params a) s

end Sys2Proof.Machine
end

