-- ==== Sys2Proof/Machine/Dispatch.lean ====
section
/-! DEFINITION. One arm per instruction, each one call of its meaning. -/

namespace Sys2Proof.Machine

def exec (i : Instr) (s : State) : Host.Outcome State Fault Refusal :=
  match i with
  | .toFloat a => Sys2Proof.Machine.execToFloat a s
  | .fromFloat a => Sys2Proof.Machine.execFromFloat a s
  | .mul a b => Sys2Proof.Machine.execMul a b s
  | .square a => Sys2Proof.Machine.execSquare a s
  | .sqrt a => Sys2Proof.Machine.execSqrt a s
  | .qcopy a => Sys2Proof.Machine.execQcopy a s
  | .qinv a => Sys2Proof.Machine.execQinv a s
  | .qmul l r => Sys2Proof.Machine.execQmul l r s
  | .qlmul l r => Sys2Proof.Machine.execQlmul l r s
  | .qrmul l r => Sys2Proof.Machine.execQrmul l r s
  | .qremap q ax => Sys2Proof.Machine.execQremap q ax s
  | .qpipe chip raw unity ax => Sys2Proof.Machine.execQpipe chip raw unity ax s
  | .ping => Sys2Proof.Machine.execPing s
  | .readQuat => Sys2Proof.Machine.execReadQuat s
  | .setChipOffset => Sys2Proof.Machine.execSetChipOffset s
  | .setUnityOffset q => Sys2Proof.Machine.execSetUnityOffset q s
  | .setAxis a => Sys2Proof.Machine.execSetAxis a s
  | .setId n => Sys2Proof.Machine.execSetId n s
  | .flash => Sys2Proof.Machine.execFlash s
  | .program n => Sys2Proof.Machine.execProgram n s
  | .readCompassAcc => Sys2Proof.Machine.execReadCompassAcc s
  | .replyAck => Sys2Proof.Machine.execReplyAck s
  | .replyQuat => Sys2Proof.Machine.execReplyQuat s
  | .replyCompassAcc => Sys2Proof.Machine.execReplyCompassAcc s

end Sys2Proof.Machine
end

