-- ==== Sys2Proof/Machine/Sequencer.lean ====
section
/-! DEFINITION. The protocol sequencer (spec 43_protocol.md R190 to R221): header hunt, address filter, dispatch of the
opcode byte, completion of a payload, the page loop, and what follows a completed send. -/

namespace Sys2Proof.Machine

open Sys2Proof

/-- `Header(b)` (R191). -/
def header (b : Byte) (s : State) : Result := arm 1 (setProto (headerState s.params b) s)

/-- The address filter: handshake, own identity, else header hunt on the byte already read (R196). -/
def addressFilter (b : Byte) (s : State) : Result :=
  if b = s.params.broadcastId ∧ s.fwDone = false then .next (setProto .downloadingFirmware s)
  else if b = s.devId then arm 1 (setProto .waitCommand s)
  else header b s

/-- An unknown opcode is ignored: `WaitHeader` and a new one-byte receive (R218). -/
def unknownOpcode (s : State) : Result := arm 1 (setProto .waitHeader s)

/-- The dispatch of an opcode byte: a command without payload is executed now, one with payload arms its receive
(R198). -/
def dispatch (c : Byte) (s : State) : Result :=
  match commandOf s.params c with
  | some .ping => exec .ping s
  | some .readQuat => exec .readQuat s
  | some .setChipOffset => exec .setChipOffset s
  | some .setUnityOffset => arm 16 (setProto .waitUnityOffset s)
  | some .setAxis => arm 1 (setProto .waitAxis s)
  | some .setId => arm 1 (setProto .waitNewId s)
  | some .flash => exec .flash s
  | some .program => arm 1 (setProto .waitNumPages s)
  | some .readCompassAcc => exec .readCompassAcc s
  | none => unknownOpcode s

/-- `MemRead(RX_BUF, 0, n)`, refused where the buffer is shorter (R17, R60, R175). -/
def withRxBytes (n : Nat) (s : State) (f : List Byte → Result) : Result :=
  if n ≤ s.rxBuf.length then f (s.rxBuf.take n) else .refused (.bufferIndex n)

/-- The byte of a one-byte receive, `RX_BUF[0]` (R194). -/
def withRxByte (s : State) (f : Byte → Result) : Result :=
  match s.rxBuf with
  | b :: _ => f b
  | [] => .refused (.bufferIndex 0)

/-- SET_UNITY_OFFSET is complete: the sixteen payload bytes as four words (R205). -/
def unityPayload (s : State) : Result :=
  withRxBytes 16 s fun bs =>
    match quatOfBytes s.params.wordOrder bs with
    | some q => exec (.setUnityOffset q) s
    | none => .refused (.bufferIndex 16)

/-- A page has arrived: it is stored and acknowledged, `STATE` stays `Flashing` (R219). -/
def pageReceived (s : State) : Result :=
  withRxBytes pageSize s fun page => ack .flashing (storProgram s.pageIdx page s)

/-- `rxdone`, the entry on receive-complete (R192). -/
def rxdone (s : State) : Result :=
  match s.proto with
  | .waitHeader => withRxByte s fun b => header b s
  | .waitId => withRxByte s fun b => addressFilter b s
  | .waitCommand => withRxByte s fun b => dispatch b s
  | .waitUnityOffset => unityPayload s
  | .waitAxis => withRxByte s fun b => exec (.setAxis b) s
  | .waitNewId => withRxByte s fun b => exec (.setId b) s
  | .waitNumPages => withRxByte s fun b => exec (.program b) s
  | .flashing => pageReceived s
  | .replyAck => .refused (.receiveInState .replyAck)
  | .replyQuaternion => .refused (.receiveInState .replyQuaternion)
  | .replyCompassAccuracy => .refused (.receiveInState .replyCompassAccuracy)
  | .downloadingFirmware => .refused (.receiveInState .downloadingFirmware)

/-- A page acknowledgement has been sent: the next page, or the reboot after the last one (R220). -/
def pageAcknowledged (s : State) : Result :=
  let t : State := { s with pageIdx := s.pageIdx + 1#8 }
  if t.pageIdx = t.pages then .next (reboot t) else arm pageSize t

/-- `txdone`, the entry on send-complete (R193). -/
def txdone (s : State) : Result :=
  if s.proto = .flashing then pageAcknowledged s else arm 1 (setProto .waitHeader s)

end Sys2Proof.Machine
end

