-- ==== Sys2Proof/Machine/Codec.lean ====
section
/-! DEFINITION. The three LINK events of the frame codec (spec 42_codec.md R167, R169, R172 to R174). -/

namespace Sys2Proof.Machine

open Sys2Proof

/-- The receiver takes bytes: link in receive mode and a receive armed (R172). -/
def listening (s : State) : Bool := s.dir == .rx && s.rxArmed

/-- The writes of a data byte: stored, counted, the escape flag set after a sentinel (R174). -/
def stored (b : Byte) (s : State) : State :=
  { s with
    rxBuf := s.rxBuf.set s.rxCnt.toNat b
    rxCnt := s.rxCnt + 1#7
    rxEsc := nextRxEsc s.params s.rxEsc b }

/-- The data byte that completes a receive: stored, and the receive is over (R174). -/
def completed (b : Byte) (s : State) : State := { stored b s with rxArmed := false }

/-- Event `RX_BYTE(b)`, case 3: the byte is data (R174). -/
def dataByte (b : Byte) (s : State) : Result :=
  if s.rxCnt.toNat < s.rxBuf.length then
    if s.rxCnt + 1#7 = s.rxLen then rxdone (completed b s) else .next (stored b s)
  else .refused (.bufferIndex s.rxCnt.toNat)

/-- Event `RX_BYTE(b)`: not listening (R172), then pad position (R173), then data (R174). -/
def rxByteEvent (b : Byte) (s : State) : Result :=
  if listening s then
    if s.rxEsc then .next { s with rxEsc := false } else dataByte b s
  else .next s

/-- The transmitter has a byte to send: a send is in flight and not drained (R167). -/
def txPending (s : State) : Bool := s.txActive && !s.txDrain

/-- The pad owed is emitted (R167). -/
def padSent (s : State) : State :=
  { s with
    wireOut := s.wireOut ++ [s.params.pad]
    txPad := false
    txDrain := nextTxDrain s.txCnt s.txLen false }

/-- The next byte of the frame, `b`, is emitted (R167). -/
def byteSent (b : Byte) (s : State) : State :=
  { s with
    wireOut := s.wireOut ++ [b]
    txCnt := s.txCnt + 1#5
    txPad := nextTxPad s.params b
    txDrain := nextTxDrain (s.txCnt + 1#5) s.txLen (nextTxPad s.params b) }

/-- Event `TX_READY`: nothing to send, then pad owed, then next byte (R167, R252). -/
def txReadyEvent (s : State) : Result :=
  if txPending s then
    if s.txPad then .next (padSent s)
    else
      match s.txBuf[s.txCnt.toNat]? with
      | some b => .next (byteSent b s)
      | none => .refused (.bufferIndex s.txCnt.toNat)
  else .next s

/-- The turnaround: the send is over and the link back in receive mode (R169). -/
def turnedAround (s : State) : State := { s with txDrain := false, txActive := false, dir := .rx }

/-- Event `TX_IDLE`: turnaround and send-complete (R169). -/
def txIdleEvent (s : State) : Result :=
  if s.txDrain then txdone (turnedAround s) else .next s

end Sys2Proof.Machine
end

