-- ==== Sys2Proof/Machine/Sensor.lean ====
section
/-! DEFINITION. The three SENS events (spec 43_protocol.md R224, R226, R227). -/

namespace Sys2Proof.Machine

open Sys2Proof

/-- Event `SAMPLE(q)`: the raw sample is kept and the pipeline run once (R224). -/
def sampleEvent (q : Quat) (s : State) : State :=
  { s with qRaw := q, qOut := qpipeQ s.qChip q s.qUnity s.axis }

/-- Event `COMPASS(level)`: the running maximum of `level[1:0]` (R226). -/
def compassEvent (level : Nat) (s : State) : State :=
  { s with compassAcc := if s.compassAcc < BitVec.ofNat 2 level then BitVec.ofNat 2 level else s.compassAcc }

/-- The writes of `FW_DONE` before its `Arm(1)` (R227). -/
def firmwareDone (s : State) : State :=
  { s with fwDone := true, rxEsc := false, dir := .rx, proto := .waitHeader }

/-- Event `FW_DONE`: ends the firmware download, ignored in any other state (R227). -/
def fwDoneEvent (s : State) : Result :=
  if s.proto = .downloadingFirmware then arm 1 (firmwareDone s) else .next s

end Sys2Proof.Machine
end

