-- ==== Sys2Proof/Machine/Port.lean ====
section
/-! DEFINITION. One port transaction of any port (spec 60_exceptions.md R247, R250), and how a word of the opcode table
is placed where the next step takes it. -/

namespace Sys2Proof.Machine

open Sys2Proof

/-- A compute request: its operation is executed; a reserved `OP` is refused (R97, R98). -/
def cpEvent (r : Creq) (s : State) : Result :=
  match decodeCreq r with
  | .ok i => exec i s
  | .rejected _ => .refused (.reservedOp r.op)

/-- One port transaction, handled to completion (R247, R250). -/
def handle (e : Event) (s : State) : Result :=
  match e with
  | .cp r => cpEvent r s
  | .rxByte b => rxByteEvent b s
  | .txReady => txReadyEvent s
  | .txIdle => txIdleEvent s
  | .sample q => .next (sampleEvent q s)
  | .compass level => .next (compassEvent level s)
  | .fwDone => fwDoneEvent s
  | .reset => .next (resetBlock s)

/-- The state whose next event is `e` and whose later events are as they were. -/
def withNextEvent (e : Event) (s : State) : State := { s with events := e :: s.events }

/-- The state in which the next data byte completes the receive of the protocol state `st`: the link listens, the bytes
`bs` of that receive are already in `RX_BUF`, one more is awaited. -/
def awaiting (st : ProtoState) (bs : List Byte) (s : State) : State :=
  { s with
    proto := st
    dir := .rx
    txActive := false
    txDrain := false
    rxEsc := false
    rxArmed := true
    rxLen := BitVec.ofNat 7 (bs.length + 1)
    rxCnt := BitVec.ofNat 7 bs.length
    rxBuf := bs ++ s.rxBuf.drop bs.length }

/-- The protocol state in which a command is executed: `WaitCommand` for one without payload, its payload state for one
with payload (R198). -/
def commandState : Command → ProtoState
  | .ping => .waitCommand
  | .readQuat => .waitCommand
  | .setChipOffset => .waitCommand
  | .setUnityOffset => .waitUnityOffset
  | .setAxis => .waitAxis
  | .setId => .waitNewId
  | .flash => .waitCommand
  | .program => .waitNumPages
  | .readCompassAcc => .waitCommand

/-- A command with its payload, placed so that the next step executes it: the byte that completes it is the next event,
the bytes before it have been received. -/
def placeCommand (c : Command) (op : Byte) (payload : List Byte) (s : State) : State :=
  match payload.getLast? with
  | none => withNextEvent (.rxByte op) (awaiting (commandState c) [] s)
  | some b => withNextEvent (.rxByte b) (awaiting (commandState c) payload.dropLast s)

/-- The command whose execution sends a reply (R200, R202, R217). -/
def replyCause : ReplyKind → Command
  | .ack => .ping
  | .quat => .readQuat
  | .compassAcc => .readCompassAcc

/-- A word of the opcode table, placed so that the next step runs it: a compute request or the completing byte of a
command as the next event; for a reply, the command whose execution sends it (notes/assumptions/2.md). -/
def placeTableWord (s : State) (nbits w : Nat) : State :=
  match tableFormat s.params nbits w with
  | .creq => withNextEvent (.cp (tableCreq w)) s
  | .h2d =>
    match commandOf s.params (BitVec.ofNat 8 w) with
    | some c => placeCommand c (BitVec.ofNat 8 w) (tablePayload nbits w c.payloadLen) s
    | none => withNextEvent (.rxByte (BitVec.ofNat 8 w)) (awaiting .waitCommand [] s)
  | .d2h =>
    match replyOf s.params (BitVec.ofNat 8 w) with
    | some k => placeCommand (replyCause k) (commandByte s.params (replyCause k)) [] s
    | none => s

end Sys2Proof.Machine
end

