-- ==== Sys2Proof/Machine/Step.lean ====
section
/-! DEFINITION. One step of the block: the next port transaction is taken and handled to completion (spec
60_exceptions.md R250, R251); with none to come the block is idle and nothing changes (R262). -/

namespace Sys2Proof.Machine

open Sys2Proof

/-- One step (R250, R262). -/
def step (s : State) : Host.Outcome State Fault Refusal :=
  match s.events with
  | [] => .next s
  | e :: rest => handle e { s with events := rest }

/-- The state with a word of the opcode table placed where the next step takes it (notes/assumptions/2.md). -/
def State.withFetchWord (s : State) (nbits w : Nat) : State := placeTableWord s nbits w

end Sys2Proof.Machine
end

