-- ==== Sys2Proof/Safety.lean ====
section
/-! DEFINITION. What the statements speak of: the invariants of spec 10_state.md R52 and those the model adds, the states
in which a command can be executed, the state a started reply leaves, and the steps that complete a receive or reset the
block. -/

namespace Sys2Proof.Machine

open Sys2Proof

/-- The length of the receive armed in a state that waits for bytes, the table of R25 without `Flashing`. -/
def waitLength : ProtoState → Option (BitVec 7)
  | .waitHeader => some 1#7
  | .waitId => some 1#7
  | .waitCommand => some 1#7
  | .waitUnityOffset => some 16#7
  | .waitAxis => some 1#7
  | .waitNewId => some 1#7
  | .waitNumPages => some 1#7
  | .replyAck => none
  | .replyQuaternion => none
  | .replyCompassAccuracy => none
  | .flashing => none
  | .downloadingFirmware => none

/-- The three states that send a reply (R25, R193). -/
def isReplyState (st : ProtoState) : Bool :=
  st == .replyAck || st == .replyQuaternion || st == .replyCompassAccuracy

/-- The invariants of R52, clause by clause. -/
structure CodecInv (s : State) : Prop where
  /-- R52 (a). -/
  armed : s.rxArmed = true → s.dir = .rx ∧ s.rxCnt < s.rxLen ∧ s.rxLen ≤ 64#7
  /-- R52 (b), first sentence. -/
  activeIffTx : s.txActive = true ↔ s.dir = .tx
  /-- R52 (b), second sentence. -/
  active : s.txActive = true → s.rxArmed = false ∧ s.txCnt ≤ s.txLen ∧ s.txLen ≤ 18#5 ∧
    (s.txDrain = true → s.txCnt = s.txLen ∧ s.txPad = false)
  /-- R52 (c). -/
  notBoth : ¬(s.rxArmed = true ∧ s.txActive = true)
  /-- R52 (d), the waiting states. -/
  waiting : ∀ n, waitLength s.proto = some n → s.rxArmed = true ∧ s.rxLen = n
  /-- R52 (d), the reply states. -/
  replying : isReplyState s.proto = true → s.txActive = true
  /-- R52 (d), `Flashing`. -/
  flashing : s.proto = .flashing →
    (s.rxArmed = true ∧ s.rxLen = 64#7 ∧ s.txActive = false) ∨ (s.rxArmed = false ∧ s.txActive = true)
  /-- R52 (d), `DownloadingFirmware`. -/
  downloading : s.proto = .downloadingFirmware → s.rxArmed = false ∧ s.txActive = false

/-- The invariants of R52 and what the model adds to make them inductive: the constraints on the parameters (R13), the
sizes of the buffers (R40, R45), a draining send is a send, a send that is not drained has a byte or a pad to send
(R167), a page index below the page count in the page loop (R215), the canonical form of program memory. -/
structure Inv (s : State) : Prop where
  codec : CodecInv s
  params : s.params.ok = true
  rxBufSize : s.rxBuf.length = s.params.rxBufSize
  txBufSize : s.txBuf.length = s.params.txBufSize
  drainActive : s.txDrain = true → s.txActive = true
  moreToSend : s.txActive = true → s.txDrain = false → s.txCnt < s.txLen ∨ s.txPad = true
  pageBelow : s.proto = .flashing → s.pageIdx < s.pages
  progMem : Memory.wf s.progMem = true

/-- A reply can be sent: no transfer is in flight and the send buffer has its default size or more (R166, R176;
92_eei_decisions.md D30). -/
def replyReady (s : State) : Prop := s.txActive = false ∧ s.rxArmed = false ∧ 18 ≤ s.params.txBufSize

/-- A receive can be armed: no transfer is in flight, the link is in receive mode and the receive buffer has its default
size or more (R170, R176; 92_eei_decisions.md D30). -/
def armReady (s : State) : Prop :=
  s.txActive = false ∧ s.rxArmed = false ∧ s.dir = .rx ∧ 64 ≤ s.params.rxBufSize

/-- The state in which the reply `frame` has been built and its send begun, the protocol state being `st`; every other
element is as in `s` (R166, R222). -/
def replyStarted (frame : List Byte) (st : ProtoState) (s : State) : State :=
  { s with
    proto := st
    dir := .tx
    txActive := true
    txLen := BitVec.ofNat 5 frame.length
    txCnt := 0#5
    txPad := false
    txDrain := false
    txBuf := frame ++ s.txBuf.drop frame.length }

/-- The logical REPLY_ACK frame (R223). -/
def ackFrame (p : Params) : List Byte := [p.sentinel, p.ops.replyAck, p.ackSuccess]

/-- The state in which a receive of `n` bytes has been armed, the protocol state being `st`; every other element is as in
`s` (R170). -/
def receiveArmed (n : BitVec 7) (st : ProtoState) (s : State) : State :=
  { s with proto := st, rxLen := n, rxCnt := 0#7, rxArmed := true }

/-- The state in which a compute request has been answered with `r`; every other element is as in `s` (R22, R96). -/
def answered (r : Quat) (s : State) : State := { s with cpOut := s.cpOut ++ [r] }

/-- The next data byte completes the receive: the link listens, no pad is owed, one byte is still expected and the
buffer has room for it (R172 to R174). -/
def completesReceive (s : State) : Prop :=
  s.dir = .rx ∧ s.rxArmed = true ∧ s.rxEsc = false ∧ s.rxCnt.toNat < s.rxBuf.length ∧ s.rxCnt + 1#7 = s.rxLen

/-- `RX_BUF` with the data byte `b` stored (R174). -/
def bufferWith (b : Byte) (s : State) : List Byte := s.rxBuf.set s.rxCnt.toNat b

/-- The data byte `b` completes a receive whose first byte is then `c`; in a one-byte receive, the one R25 gives the
states that read `RX_BUF[0]`, `c` is `b` itself. -/
def completesWith (c b : Byte) (s : State) : Prop :=
  completesReceive s ∧ (bufferWith b s).head? = some c ∧ (s.rxLen = 1#7 → b = c)

/-- The step from `s` to `t` reset the block: by the event RESET (R270), by the byte 0 that completes `WaitNumPages`
(R214), or by the `TX_IDLE` after the last page (R220); the latter two signal `REBOOT_REQ` (R221). -/
def resetIn (s t : State) : Prop :=
  (∃ rest, s.events = .reset :: rest ∧ t = resetBlock { s with events := rest }) ∨
  (∃ b rest, s.events = .rxByte b :: rest ∧ s.proto = .waitNumPages ∧ completesWith 0#8 b s ∧
    t = resetBlock { s with events := rest, rxBuf := bufferWith b s, rebootReqs := s.rebootReqs + 1 }) ∨
  ∃ rest, s.events = .txIdle :: rest ∧ s.txDrain = true ∧ s.proto = .flashing ∧ s.pageIdx + 1#8 = s.pages ∧
    t = resetBlock { s with events := rest, rebootReqs := s.rebootReqs + 1 }

/-- `k` steps, stopping at the first refusal. -/
def runSteps : Nat → State → Result
  | 0, s => .next s
  | k + 1, s => andThen (step s) (runSteps k)

/-- The `OP` values that select no operation (R98). -/
def reservedOps : List (BitVec 4) := [0x5#4, 0x6#4, 0x7#4, 0xF#4]

end Sys2Proof.Machine
end

