-- ==== Sys2Proof/Certificates/Slice0/Obligations.lean ====
section
/-! DEFINITION. The statements for the provers, from the numbered rules of the spec. Where a statement rests on a decision
of the spec (92_eei_decisions.md) or on an entry of the assumption log, its docstring says so. -/

open Sys2Proof Sys2Proof.Machine

/-- TOFLOAT (R112). The truncation of the low bits is the spec's decision D14. -/
def Obligations.TofloatPacksNormalizedMagnitude : Prop :=
  ∀ (a : Word) (s : State),
    (a = 0#32 → exec (.toFloat a) s = .next (answered (scalarQuat 0#32) s)) ∧
    ∀ n : Nat, n ≤ 31 → 2 ^ (31 - n) ≤ a.toInt.natAbs → a.toInt.natAbs < 2 ^ (32 - n) →
      exec (.toFloat a) s = .next (answered (scalarQuat (BitVec.ofNat 32
        ((if a.toInt < 0 then 2 ^ 31 else 0) + (128 - n) * 2 ^ 23 + (a.toInt.natAbs * 2 ^ n - 2 ^ 31) / 2 ^ 8))) s)

/-- FROMFLOAT (R115). The treatment of large shift amounts and of patterns outside the domain is the spec's decision D15. -/
def Obligations.FromfloatShiftsSignificand : Prop :=
  ∀ (f : Word) (s : State),
    exec (.fromFloat f) s = .next (answered (scalarQuat (BitVec.ofInt 32
      ((if f.msb then -1 else 1) *
        (((2 ^ 23 + f.toNat % 2 ^ 23) * 2 ^ (f.toNat / 2 ^ 23 % 2 ^ 8) / 2 ^ 120 : Nat) : Int)))) s)

/-- The round trip of R117, which the spec derives; the truncation is its decision D14. -/
def Obligations.FloatRoundTripTruncatesTo24Bits : Prop :=
  ∀ a : Word,
    (a = 0#32 → fromFloatW (toFloatW a) = 0#32) ∧
    ∀ n : Nat, n ≤ 31 → 2 ^ (31 - n) ≤ a.toInt.natAbs → a.toInt.natAbs < 2 ^ (32 - n) →
      (fromFloatW (toFloatW a)).toInt =
        (if a.toInt < 0 then -1 else 1) * ((a.toInt.natAbs / 2 ^ (8 - n) * 2 ^ (8 - n) : Nat) : Int)

/-- MUL (R118) and SQUARE (R122). The combination of the partial products is the spec's decision D11, SQUARE bit for bit MUL its decision D13. -/
def Obligations.MulAndSquareSumFourPartialProducts : Prop :=
  ∀ (a b : Word) (s : State),
    exec (.mul a b) s = .next (answered (scalarQuat (BitVec.ofInt 32
      ((a.toInt / 65536) * (b.toInt / 65536) * 4
        + (a.toInt / 65536) * ((b.toNat % 65536 : Nat) : Int) / 16384
        + ((a.toNat % 65536 : Nat) : Int) * (b.toInt / 65536) / 16384
        + (((a.toNat % 65536) * (b.toNat % 65536) / 2 ^ 30 : Nat) : Int)))) s) ∧
    exec (.square a) s = exec (.mul a a) s ∧
    exec (.square a) s = .next (answered (scalarQuat (mulW a a)) s)

/-- The laws of MUL in R120, which the spec derives; they rest on its decision D11. -/
def Obligations.MulHasIdentityZeroAndCommutes : Prop :=
  ∀ x y : Word,
    mulW oneQ30 x = x ∧ mulW x oneQ30 = x ∧ mulW x 0#32 = 0#32 ∧ mulW 0#32 x = 0#32 ∧ mulW x y = mulW y x

/-- The accuracy law of R120, which the spec derives. Within 3 LSB of -2.0 the dropped fractions can wrap the sum, so the premise leaves that margin (notes/assumptions/15.md). -/
def Obligations.MulIsLessThanThreeLsbBelowTheProduct : Prop :=
  ∀ a b : Word, -(2 ^ 61) + 3 * 2 ^ 30 ≤ a.toInt * b.toInt → a.toInt * b.toInt < 2 ^ 61 →
    (mulW a b).toInt * 2 ^ 30 ≤ a.toInt * b.toInt ∧ a.toInt * b.toInt < ((mulW a b).toInt + 3) * 2 ^ 30

/-- The three uncomputed branches of SQRT (R124, R128, R129). The result for a negative word is the spec's decision D17, the branch for zero its decision D16. -/
def Obligations.SqrtPassesThroughAndZeroes : Prop :=
  ∀ (a : Word) (s : State),
    (0x40000000 ≤ a.toInt → exec (.sqrt a) s = .next (answered (scalarQuat a) s)) ∧
    (a.toInt ≤ 0 → exec (.sqrt a) s = .next (answered (scalarQuat 0#32) s))

/-- The computed branch of SQRT (R124). Normalisation and sub-ranges are the spec's decision D16; the coefficients are the parameters of the state. -/
def Obligations.SqrtEvaluatesTheSelectedPolynomial : Prop :=
  ∀ (a : Word) (s : State) (n : Nat), 2 ≤ n → n ≤ 31 → 2 ^ (31 - n) ≤ a.toNat → a.toNat < 2 ^ (32 - n) →
    exec (.sqrt a) s =
      let c := if n % 2 = 1 then s.params.sqrtOdd else s.params.sqrtEven
      let k := n - 2 - n % 2
      let t := (a <<< k) - c.anchor
      let p3 := c.c3 + mulW t c.c4
      let p2 := c.c2 + mulW t p3
      let p1 := c.c1 + mulW t p2
      let p0 := c.c0 + mulW t p1
      .next (answered (scalarQuat (p0.sshiftRight (k / 2))) s)

/-- QCOPY (R141). -/
def Obligations.QcopyReturnsItsOperand : Prop :=
  ∀ (a : Quat) (s : State), exec (.qcopy a) s = .next (answered ⟨a.w, a.x, a.y, a.z⟩ s)

/-- QINV (R142, R143). The wrapping negation is the spec's decision D12. -/
def Obligations.QinvNegatesTheVectorPart : Prop :=
  ∀ (a : Quat) (s : State),
    exec (.qinv a) s = .next (answered ⟨a.w, -a.x, -a.y, -a.z⟩ s) ∧ qinvQ (qinvQ a) = a

/-- QMUL (R144). The expansion is from general knowledge, the order of sums the spec's decision D18, their wrap its decision D12. -/
def Obligations.QmulIsTheHamiltonProduct : Prop :=
  ∀ (l r : Quat) (s : State),
    exec (.qmul l r) s = .next (answered
      ⟨mulW l.w r.w - mulW l.x r.x - mulW l.y r.y - mulW l.z r.z,
       mulW l.w r.x + mulW l.x r.w + mulW l.y r.z - mulW l.z r.y,
       mulW l.w r.y - mulW l.x r.z + mulW l.y r.w + mulW l.z r.x,
       mulW l.w r.z + mulW l.x r.y - mulW l.y r.x + mulW l.z r.w⟩ s)

/-- QLMUL (R146) and QRMUL (R147): the snapshot makes both the product of the operands on entry. -/
def Obligations.InPlaceProductsReturnTheProduct : Prop :=
  ∀ (l r : Quat) (s : State),
    exec (.qlmul l r) s = .next (answered (qmulQ l r) s) ∧ exec (.qrmul l r) s = .next (answered (qmulQ l r) s) ∧
    exec (.qlmul l r) s = exec (.qmul l r) s ∧ exec (.qrmul l r) s = exec (.qmul l r) s

/-- The identity law of R145, which the spec derives; it rests on the decision D11. -/
def Obligations.QmulByTheIdentityIsExact : Prop :=
  ∀ q : Quat, qmulQ identityQuat q = q ∧ qmulQ q identityQuat = q

/-- QREMAP (R150, R151). Direction, sign polarity and index 3 are the spec's decisions D10, D8 and D9. -/
def Obligations.QremapPicksSignedComponents : Prop :=
  ∀ (q : Quat) (ax : Axis) (s : State),
    let v := [q.x, q.y, q.z, 0#32]
    exec (.qremap q ax) s = .next (answered
      ⟨q.w,
       if ax.xs then -(v.getD ax.xi.toNat 0#32) else v.getD ax.xi.toNat 0#32,
       if ax.ys then -(v.getD ax.yi.toNat 0#32) else v.getD ax.yi.toNat 0#32,
       if ax.zs then -(v.getD ax.zi.toNat 0#32) else v.getD ax.zi.toNat 0#32⟩ s) ∧
    qremapQ q factoryAxis = q

/-- QPIPE (R152), as a request and on SAMPLE (R224). That the sample is held and the output computed in the SAMPLE step are the spec's decisions D35 and D36 (notes/assumptions/14.md). -/
def Obligations.QpipeComposesInTheFixedOrder : Prop :=
  (∀ (chip raw unity : Quat) (ax : Axis) (s : State),
    exec (.qpipe chip raw unity ax) s = .next (answered (qmulQ (qremapQ (qmulQ chip raw) ax) unity) s)) ∧
  ∀ (q : Quat) (s : State) (rest : List Event), s.events = .sample q :: rest →
    step s = .next { s with
      events := rest, qRaw := q, qOut := qmulQ (qremapQ (qmulQ s.qChip q) s.axis) s.qUnity }

/-- R153, first property, which the spec derives; that SAMPLE computes the output is its decision D36. -/
def Obligations.PipelineIsTransparentUntilCalibrated : Prop :=
  ∀ (q : Quat) (s : State) (rest : List Event),
    s.events = .sample q :: rest → s.qChip = identityQuat → s.qUnity = identityQuat → s.axis = factoryAxis →
    step s = .next { s with events := rest, qRaw := q, qOut := q }

/-- R22, R96 to R98: a request reads and writes no register. The request format and its reserved codes are the spec's decision D4. -/
def Obligations.ComputeOperationsTouchOnlyTheResult : Prop :=
  ∀ (r : Creq) (s : State) (rest : List Event), s.events = .cp r :: rest →
    (r.op ∈ reservedOps → step s = .refused (.reservedOp r.op)) ∧
    (r.op ∉ reservedOps → ∃ res : Quat, step s = .next { s with events := rest, cpOut := s.cpOut ++ [res] })

/-- A few encodings of R88, R96 to R99 written out, with the default parameters (decisions D4, D5). -/
def Obligations.WrittenOutWordsDecode : Prop :=
  decodeCreq ⟨0x2#4, 0x40000000#128, 0x12345678#128, 0#128, 0#9⟩ = .ok (.mul 0x40000000#32 0x12345678#32) ∧
  decodeCreq ⟨0xD#4, 0x44444444333333332222222211111111#128, 0#128, 0#128, 0x0C5#9⟩ =
    .ok (.qremap ⟨0x11111111#32, 0x22222222#32, 0x33333333#32, 0x44444444#32⟩ ⟨true, 2#2, false, 0#2, true, 1#2⟩) ∧
  decodeCreq ⟨0x5#4, 0#128, 0#128, 0#128, 0#9⟩ = .rejected (.reservedOp 0x5#4) ∧
  decodeH2D defaultParams [0xFF#8, 0x01#8, 0x00#8] = .ok (0x01#8, .ping) ∧
  decodeH2D defaultParams [0xFF#8, 0x01#8, 0x06#8, 0x1A#8] = .ok (0x01#8, .setAxis 0x1A#8) ∧
  decodeH2D defaultParams [0xFF#8, 0x01#8, 0x7E#8] = .rejected (.unknownCommand 0x7E#8)

/-- R96, R97: no bit of a request is dropped. The format is the spec's decision D4. -/
def Obligations.ComputeRequestsRoundTrip : Prop :=
  ∀ i : Instr, i.format = .creq → ∃ r : Creq, encodeCreq i = some r ∧ decodeCreq r = .ok i

/-- R81, R86, R88, R90 to R92, over all opcode bytes that are pairwise distinct and both byte orders (decisions D5, D7). -/
def Obligations.CommandFramesRoundTrip : Prop :=
  ∀ (p : Params) (id : Byte) (i : Instr), p.ok = true → i.format = .h2d →
    ∃ bs : List Byte, encodeH2D p id i = some bs ∧ decodeH2D p bs = .ok (id, i)

/-- Decode and encode agree for all 24 instructions (R81, R86, R88, R97; decisions D4, D5). -/
def Obligations.EveryInstructionRoundTripsInItsFormat : Prop :=
  ∀ (p : Params) (e : Envelope) (i : Instr), p.ok = true →
    (∀ k, replyKindOf i = some k → e.replyPayload.length = k.payloadLen) →
    (∃ x : Encoded, encode p e i = some x ∧ decode p x = .ok i) ∧
    ∀ k, replyKindOf i = some k → decodeD2H p (encodeD2H p k e.replyPayload) = .ok (i, e.replyPayload)

/-- The framing law of R163 for the functions of R83, and the wire length of R84. -/
def Obligations.UnstuffUndoesStuff : Prop :=
  ∀ (p : Params) (S : List Byte),
    unstuff p (stuff p S) = S ∧ (stuff p S).length = S.length + S.count p.sentinel

/-- PING (R200), with the frame of REPLY_ACK. -/
def Obligations.PingSendsOnlyTheAcknowledgement : Prop :=
  ∀ s : State, replyReady s → exec .ping s = .next (replyStarted (ackFrame s.params) .replyAck s)

/-- REPLY_ACK, REPLY_QUAT and REPLY_COMPASS_ACC (R222, R223, R228, R229) as instructions of their own (notes/assumptions/12.md); that the frame is built whole is the spec's decision D23. -/
def Obligations.ReplyInstructionsStartTheirFrames : Prop :=
  ∀ s : State, replyReady s →
    exec .replyAck s = .next (replyStarted (ackFrame s.params) .replyAck s) ∧
    exec .replyQuat s = .next (replyStarted
      (s.params.sentinel :: s.params.ops.replyQuat ::
        (wordBytes s.params.wordOrder (toFloatW s.qOut.w) ++ wordBytes s.params.wordOrder (toFloatW s.qOut.x) ++
          wordBytes s.params.wordOrder (toFloatW s.qOut.y) ++ wordBytes s.params.wordOrder (toFloatW s.qOut.z)))
      .replyQuaternion s) ∧
    exec .replyCompassAcc s = .next (replyStarted
      [s.params.sentinel, s.params.ops.replyCompassAcc, s.compassAcc.setWidth 8] .replyCompassAccuracy s)

/-- READ_QUAT (R202, R228). That the frame is fixed from Q_OUT in the dispatch step is the spec's decision D23 (R222), the byte order of its words, a parameter, its decision D7 (R62; notes/assumptions/14.md and 3.md). -/
def Obligations.ReadQuatSendsTheOutputAsFloats : Prop :=
  ∀ s : State, replyReady s →
    exec .readQuat s = .next (replyStarted
      (s.params.sentinel :: s.params.ops.replyQuat ::
        (wordBytes s.params.wordOrder (toFloatW s.qOut.w) ++ wordBytes s.params.wordOrder (toFloatW s.qOut.x) ++
          wordBytes s.params.wordOrder (toFloatW s.qOut.y) ++ wordBytes s.params.wordOrder (toFloatW s.qOut.z)))
      .replyQuaternion s) ∧
    (s.params.wordOrder = .little → ∀ b0 b1 b2 b3 : Byte,
      wordBytes s.params.wordOrder (b3 ++ b2 ++ b1 ++ b0) = [b0, b1, b2, b3])

/-- SET_CHIP_OFFSET (R203, R204). That the raw sample is the last SAMPLE operand is the spec's decision D35. -/
def Obligations.SetChipOffsetCapturesTheInverseSample : Prop :=
  ∀ s : State, replyReady s →
    exec .setChipOffset s = .next (replyStarted (ackFrame s.params) .replyAck
      { s with qChip := ⟨s.qRaw.w, -s.qRaw.x, -s.qRaw.y, -s.qRaw.z⟩ })

/-- SET_UNITY_OFFSET (R205). -/
def Obligations.SetUnityOffsetStoresThePayloadWords : Prop :=
  (∀ (q : Quat) (s : State), replyReady s →
    exec (.setUnityOffset q) s = .next (replyStarted (ackFrame s.params) .replyAck { s with qUnity := q })) ∧
  ∀ (s : State) (b0 b1 b2 b3 b4 b5 b6 b7 b8 b9 b10 b11 b12 b13 b14 b15 : Byte) (bs : List Byte),
    replyReady s → s.proto = .waitUnityOffset → s.params.wordOrder = .little →
    s.rxBuf = b0 :: b1 :: b2 :: b3 :: b4 :: b5 :: b6 :: b7 :: b8 :: b9 :: b10 :: b11 :: b12 :: b13 :: b14 :: b15 :: bs →
    rxdone s = .next (replyStarted (ackFrame s.params) .replyAck
      { s with qUnity := ⟨b3 ++ b2 ++ b1 ++ b0, b7 ++ b6 ++ b5 ++ b4, b11 ++ b10 ++ b9 ++ b8,
        b15 ++ b14 ++ b13 ++ b12⟩ })

/-- SET_AXIS (R91, R207, R208). Bit positions and polarity are the spec's decision D8, the wrap of the Z index its decision D9. -/
def Obligations.SetAxisUnpacksTheFieldsAndDerivesZ : Prop :=
  ∀ (s : State) (unused zs ys xs : Bool) (yi xi : BitVec 2), replyReady s →
    exec (.setAxis (BitVec.ofBool unused ++ BitVec.ofBool zs ++ yi ++ BitVec.ofBool ys ++ xi ++ BitVec.ofBool xs)) s =
      .next (replyStarted (ackFrame s.params) .replyAck { s with axis := ⟨xs, xi, ys, yi, zs, 3#2 - xi - yi⟩ })

/-- SET_ID (R209). -/
def Obligations.SetIdStoresAnyIdentity : Prop :=
  (∀ (n : Byte) (s : State), replyReady s →
    exec (.setId n) s = .next (replyStarted (ackFrame s.params) .replyAck { s with devId := n })) ∧
  ∀ (n : Byte) (bs : List Byte) (s : State), replyReady s → s.proto = .waitNewId → s.rxBuf = n :: bs →
    rxdone s = .next (replyStarted (ackFrame s.params) .replyAck { s with devId := n })

/-- FLASH (R67, R69, R71, R211). The record layout is the spec's decision D29, one step for write and reply its decision D24; how a failing write enters the model is notes/assumptions/6.md. -/
def Obligations.FlashStoresIdentityAndAxis : Prop :=
  ∀ s : State, replyReady s →
    exec .flash s = .next (replyStarted (ackFrame s.params) .replyAck
      { s with
        record := if s.storResults.head? = some false then s.record
          else ⟨s.devId, (BitVec.ofBool s.axis.xs).setWidth 8, s.axis.xi.setWidth 8,
            (BitVec.ofBool s.axis.ys).setWidth 8, s.axis.yi.setWidth 8,
            (BitVec.ofBool s.axis.zs).setWidth 8, s.axis.zi.setWidth 8⟩
        storResults := s.storResults.tail })

/-- PROGRAM (R213, R214, R221). The page sub-protocol is the spec's decision D25, the reboot its decision D42; the count of REBOOT_REQ pulses is notes/assumptions/11.md, the events kept through the reset notes/assumptions/16.md. -/
def Obligations.ProgramStartsThePageLoop : Prop :=
  (∀ (n : Byte) (s : State), armReady s → n ≠ 0#8 →
    exec (.program n) s = .next (receiveArmed 64#7 .flashing { s with pages := n, pageIdx := 0#8 })) ∧
  ∀ s : State, exec (.program 0#8) s = .next (resetBlock { s with rebootReqs := s.rebootReqs + 1 })

/-- READ_COMPASS_ACC (R217, R229). That the query restarts the maximum from 0 is the spec's decision D27. -/
def Obligations.ReadCompassAccSendsAndClears : Prop :=
  ∀ s : State, replyReady s →
    exec .readCompassAcc s = .next { replyStarted
      [s.params.sentinel, s.params.ops.replyCompassAcc, s.compassAcc.setWidth 8] .replyCompassAccuracy s with
      compassAcc := 0#2 }

/-- Frame over all 24 instructions: only the page loop calls StorProgram (R70, R219), only SAMPLE and a reset write Q_RAW (R23, R54), only TX_READY emits (R166, R167). That the events to come stay as they are through PROGRAM 0's reset too is the model's reading of R251 (d) (notes/assumptions/16.md). -/
def Obligations.NoInstructionWritesProgramMemory : Prop :=
  ∀ (i : Instr) (s t : State), exec i s = .next t →
    (∀ k, memRead t.progMem k = memRead s.progMem k) ∧ (t.qRaw = s.qRaw ∨ i = .program 0#8) ∧
    t.events = s.events ∧ t.params = s.params ∧ t.wireOut = s.wireOut

/-- R191, R194. -/
def Obligations.HeaderHuntAdvancesOnTheSentinel : Prop :=
  ∀ (s : State) (b : Byte) (bs : List Byte), armReady s → s.proto = .waitHeader → s.rxBuf = b :: bs →
    rxdone s = .next (receiveArmed 1#7 (if b = s.params.sentinel then .waitId else .waitHeader) s)

/-- R196, for every value of BROADCAST_ID and DEV_ID. That no receive is armed in the detour and FW_START reads 1 there is the spec's decision D26 (R49, R227), that BROADCAST_ID is a parameter its decision D6 (notes/assumptions/14.md and 3.md). -/
def Obligations.AddressFilterTakesThreeBranches : Prop :=
  ∀ (s : State) (b : Byte) (bs : List Byte), armReady s → s.proto = .waitId → s.rxBuf = b :: bs →
    (b = s.params.broadcastId ∧ s.fwDone = false →
      rxdone s = .next { s with proto := .downloadingFirmware } ∧
      State.fwStart { s with proto := .downloadingFirmware } = true) ∧
    (¬(b = s.params.broadcastId ∧ s.fwDone = false) → b = s.devId →
      rxdone s = .next (receiveArmed 1#7 .waitCommand s)) ∧
    (¬(b = s.params.broadcastId ∧ s.fwDone = false) → b ≠ s.devId →
      rxdone s = .next (receiveArmed 1#7 (if b = s.params.sentinel then .waitId else .waitHeader) s))

/-- R198 and, for any other byte, R218, for all parameters that keep their constraints (R13). That the unknown byte, the sentinel too, is not examined again as a header is the spec's decision D31, that the opcode values are parameters its decision D5 (notes/assumptions/14.md and 3.md). -/
def Obligations.OpcodeByteIsDispatched : Prop :=
  ∀ (s : State) (c : Byte) (bs : List Byte), armReady s → s.params.ok = true → s.proto = .waitCommand →
    s.rxBuf = c :: bs →
    (c = s.params.ops.ping → rxdone s = exec .ping s) ∧
    (c = s.params.ops.readQuat → rxdone s = exec .readQuat s) ∧
    (c = s.params.ops.setChipOffset → rxdone s = exec .setChipOffset s) ∧
    (c = s.params.ops.flash → rxdone s = exec .flash s) ∧
    (c = s.params.ops.readCompassAcc → rxdone s = exec .readCompassAcc s) ∧
    (c = s.params.ops.setUnityOffset → rxdone s = .next (receiveArmed 16#7 .waitUnityOffset s)) ∧
    (c = s.params.ops.setAxis → rxdone s = .next (receiveArmed 1#7 .waitAxis s)) ∧
    (c = s.params.ops.setId → rxdone s = .next (receiveArmed 1#7 .waitNewId s)) ∧
    (c = s.params.ops.program → rxdone s = .next (receiveArmed 1#7 .waitNumPages s)) ∧
    ((∀ k : Command, c ≠ commandByte s.params k) → rxdone s = .next (receiveArmed 1#7 .waitHeader s))

/-- R193. -/
def Obligations.SentReplyReturnsToTheHunt : Prop :=
  ∀ s : State, armReady s →
    (s.proto ≠ .flashing → txdone s = .next (receiveArmed 1#7 .waitHeader s)) ∧
    (s.proto = .flashing → txdone s = pageAcknowledged s)

/-- R70, R71, R219. The page loop is the spec's decision D25; the keys of program memory are notes/assumptions/7.md, failing writes notes/assumptions/6.md; that no erase changes another byte is the model's choice, notes/assumptions/18.md. -/
def Obligations.PageIsStoredAndAcknowledged : Prop :=
  ∀ (s : State) (page bs : List Byte), replyReady s → s.proto = .flashing → s.rxBuf = page ++ bs →
    page.length = 64 →
    ∃ m : Memory,
      rxdone s = .next (replyStarted (ackFrame s.params) .flashing
        { s with progMem := m, storResults := s.storResults.tail }) ∧
      (s.storResults.head? = some false → m = s.progMem) ∧
      (s.storResults.head? ≠ some false →
        (∀ j, j < 64 → memRead m (pageKey s.pageIdx + j) = page[j]?) ∧
        ∀ k, k < pageKey s.pageIdx ∨ pageKey s.pageIdx + 64 ≤ k → memRead m k = memRead s.progMem k)

/-- R220, R221: the spec's decisions D25 and D42; the count of REBOOT_REQ pulses is notes/assumptions/11.md, the events kept through the reset notes/assumptions/16.md. -/
def Obligations.AcknowledgedPageCountsOrReboots : Prop :=
  ∀ s : State, s.proto = .flashing →
    (s.pageIdx + 1#8 = s.pages →
      txdone s = .next (resetBlock { s with pageIdx := s.pageIdx + 1#8, rebootReqs := s.rebootReqs + 1 })) ∧
    (s.pageIdx + 1#8 ≠ s.pages → armReady s →
      txdone s = .next (receiveArmed 64#7 .flashing { s with pageIdx := s.pageIdx + 1#8 }))

/-- R174. -/
def Obligations.DataByteIsStoredAndCounted : Prop :=
  ∀ (s : State) (b : Byte) (rest : List Event),
    s.events = .rxByte b :: rest → s.dir = .rx → s.rxArmed = true → s.rxEsc = false →
    s.rxCnt.toNat < s.rxBuf.length →
    (s.rxCnt + 1#7 ≠ s.rxLen → step s = .next { s with
      events := rest, rxBuf := s.rxBuf.set s.rxCnt.toNat b, rxCnt := s.rxCnt + 1#7,
      rxEsc := decide (b = s.params.sentinel) }) ∧
    (s.rxCnt + 1#7 = s.rxLen → step s = rxdone { s with
      events := rest, rxBuf := s.rxBuf.set s.rxCnt.toNat b, rxCnt := s.rxCnt + 1#7,
      rxEsc := decide (b = s.params.sentinel), rxArmed := false })

/-- R173. -/
def Obligations.PadPositionByteIsDiscarded : Prop :=
  ∀ (s : State) (b : Byte) (rest : List Event),
    s.events = .rxByte b :: rest → s.dir = .rx → s.rxArmed = true → s.rxEsc = true →
    step s = .next { s with events := rest, rxEsc := false }

/-- R172: the spec's decision D20. -/
def Obligations.ByteOutsideAReceiveIsLost : Prop :=
  ∀ (s : State) (b : Byte) (rest : List Event),
    s.events = .rxByte b :: rest → s.dir = .tx ∨ s.rxArmed = false → step s = .next { s with events := rest }

/-- R167; that a TX_READY with nothing to send is ignored is the spec's decision D40. -/
def Obligations.TxReadyEmitsOneByteOrNothing : Prop :=
  ∀ (s : State) (rest : List Event), s.events = .txReady :: rest →
    (s.txActive = false ∨ s.txDrain = true → step s = .next { s with events := rest }) ∧
    (s.txActive = true → s.txDrain = false → s.txPad = true → step s = .next { s with
      events := rest, wireOut := s.wireOut ++ [s.params.pad], txPad := false,
      txDrain := decide (s.txCnt = s.txLen) }) ∧
    ∀ b : Byte, s.txActive = true → s.txDrain = false → s.txPad = false → s.txBuf[s.txCnt.toNat]? = some b →
      step s = .next { s with
        events := rest, wireOut := s.wireOut ++ [b], txCnt := s.txCnt + 1#5,
        txPad := decide (b = s.params.sentinel),
        txDrain := decide (s.txCnt + 1#5 = s.txLen ∧ b ≠ s.params.sentinel) }

/-- R169, R193, R220, R221; the moment of send-complete is the spec's decision D22, the ignored case its decision D40, the page loop D25, the reboot D42; the count of REBOOT_REQ pulses is notes/assumptions/11.md, the events kept through the reset notes/assumptions/16.md. -/
def Obligations.TxIdleTurnsTheLinkAround : Prop :=
  ∀ (s : State) (rest : List Event), s.events = .txIdle :: rest →
    (s.txDrain = false → step s = .next { s with events := rest }) ∧
    (s.txDrain = true →
      step s = txdone { s with events := rest, txDrain := false, txActive := false, dir := .rx }) ∧
    (s.txDrain = true → s.rxArmed = false → 64 ≤ s.params.rxBufSize → s.proto ≠ .flashing →
      step s = .next (receiveArmed 1#7 .waitHeader
        { s with events := rest, txDrain := false, txActive := false, dir := .rx })) ∧
    (s.txDrain = true → s.rxArmed = false → 64 ≤ s.params.rxBufSize → s.proto = .flashing →
      s.pageIdx + 1#8 ≠ s.pages →
      step s = .next (receiveArmed 64#7 .flashing
        { s with events := rest, txDrain := false, txActive := false, dir := .rx, pageIdx := s.pageIdx + 1#8 })) ∧
    (s.txDrain = true → s.proto = .flashing → s.pageIdx + 1#8 = s.pages →
      step s = .next (resetBlock { s with events := rest, rebootReqs := s.rebootReqs + 1 }))

/-- R83, R166 to R168: the codec's send is a refinement of stuff, by induction over the frame. -/
def Obligations.SendEmitsTheStuffedFrame : Prop :=
  ∀ (frame : List Byte) (st : ProtoState) (s : State) (rest : List Event),
    1 ≤ frame.length → frame.length ≤ 18 →
    runSteps (stuff s.params frame).length
      { replyStarted frame st s with
        events := List.replicate (stuff s.params frame).length .txReady ++ rest } =
    .next { replyStarted frame st s with
      events := rest, wireOut := s.wireOut ++ stuff s.params frame, txCnt := BitVec.ofNat 5 frame.length,
      txDrain := true }

/-- R163 in the form for the codec, R173, R174, by induction over S. -/
def Obligations.ReceiverStoresTheUnstuffedBytes : Prop :=
  ∀ (S : List Byte) (s : State) (rest : List Event),
    s.dir = .rx → s.rxArmed = true → s.rxEsc = false →
    s.rxCnt.toNat + S.length < s.rxLen.toNat → s.rxLen.toNat ≤ s.rxBuf.length →
    runSteps (stuff s.params S).length { s with events := (stuff s.params S).map .rxByte ++ rest } =
    .next { s with
      events := rest, rxCnt := s.rxCnt + BitVec.ofNat 7 S.length,
      rxBuf := s.rxBuf.take s.rxCnt.toNat ++ S ++ s.rxBuf.drop (s.rxCnt.toNat + S.length) }

/-- R81, R192 to R214 put together: header hunt, address filter, dispatch and payload, for all parameters that keep their constraints. That RX_ESC lives through the arming of the next receive is the spec's decision D21. STATE and the receive registers of the state in which the command is executed are left open here: the command's own statement gives the STATE and the registers it leaves. -/
def Obligations.AddressedFrameExecutesItsCommand : Prop :=
  ∀ (s : State) (i : Instr) (front : List Byte) (last : Byte) (rest : List Event),
    Inv s → s.proto = .waitHeader → s.rxEsc = false → s.rxCnt = 0#7 →
    ¬(s.devId = s.params.broadcastId ∧ s.fwDone = false) →
    encodeH2D s.params s.devId i = some (front ++ [last]) →
    ∃ (st : ProtoState) (buf : List Byte) (cnt len : BitVec 7) (esc : Bool),
      runSteps ((stuff s.params front).length + 1)
        { s with events := (stuff s.params front ++ [last]).map .rxByte ++ rest } =
      exec i { s with
        events := rest, proto := st, rxBuf := buf, rxCnt := cnt, rxLen := len, rxEsc := esc, rxArmed := false }

/-- R224: that the raw sample is held and the output computed in this step are the spec's decisions D35 and D36. -/
def Obligations.SampleRunsThePipelineOnce : Prop :=
  ∀ (q : Quat) (s : State) (rest : List Event), s.events = .sample q :: rest →
    step s = .next { s with events := rest, qRaw := q, qOut := qpipeQ s.qChip q s.qUnity s.axis }

/-- R226; that a level above 3 is taken modulo 4 is the spec's decision D38. -/
def Obligations.CompassKeepsTheMaximum : Prop :=
  ∀ (level : Nat) (s : State) (rest : List Event), s.events = .compass level :: rest →
    ∃ t : State, step s = .next t ∧ t.compassAcc.toNat = max s.compassAcc.toNat (level % 4) ∧
      t = { s with events := rest, compassAcc := t.compassAcc }

/-- R227: the event is the spec's decision D26. -/
def Obligations.FirmwareDoneEndsTheDetour : Prop :=
  ∀ (s : State) (rest : List Event), s.events = .fwDone :: rest →
    (s.proto ≠ .downloadingFirmware → step s = .next { s with events := rest }) ∧
    (s.proto = .downloadingFirmware → s.txActive = false → s.rxArmed = false → 64 ≤ s.params.rxBufSize →
      step s = .next (receiveArmed 1#7 .waitHeader
        { s with events := rest, fwDone := true, rxEsc := false, dir := .rx }))

/-- R53, R270: the values the source does not give are the spec's decision D28, no validation of the record its decision D39 (notes/assumptions/14.md). That RESET leaves the events to come as they are is the model's reading of R251 (d) (notes/assumptions/16.md), that it leaves the port records as they are the model's choice (notes/assumptions/11.md). -/
def Obligations.ResetLoadsTheRecordAndInitialises : Prop :=
  ∀ (s : State) (rest : List Event), s.events = .reset :: rest →
    step s = .next { s with
      events := rest, devId := s.record.devId,
      axis := ⟨s.record.xs.getLsbD 0, s.record.xi.setWidth 2, s.record.ys.getLsbD 0, s.record.yi.setWidth 2,
        s.record.zs.getLsbD 0, s.record.zi.setWidth 2⟩,
      qRaw := ⟨0x40000000#32, 0#32, 0#32, 0#32⟩, qChip := ⟨0x40000000#32, 0#32, 0#32, 0#32⟩,
      qUnity := ⟨0x40000000#32, 0#32, 0#32, 0#32⟩, qOut := ⟨0x40000000#32, 0#32, 0#32, 0#32⟩,
      compassAcc := 0#2, fwDone := false, dir := .rx, rxEsc := false, txActive := false, txPad := false,
      txDrain := false, txLen := 0#5, txCnt := 0#5, pages := 0#8, pageIdx := 0#8, proto := .waitHeader,
      rxLen := 1#7, rxCnt := 0#7, rxArmed := true }

/-- R212, R273: what survives RESET is the storage. That the buffers are left as they were is R270, the reset values are the decision D28. Where a write takes effect (the head of storResults is not false, and always with no result to come) is the model's choice (notes/assumptions/6.md), and so are the port records and the events that RESET leaves (notes/assumptions/11.md and 16.md). -/
def Obligations.ResetForgetsAllButStorageAndBuffers : Prop :=
  (∀ s t : State, s.params = t.params → s.record = t.record → s.progMem = t.progMem →
    s.storResults = t.storResults → s.rxBuf = t.rxBuf → s.txBuf = t.txBuf → s.events = t.events →
    s.wireOut = t.wireOut → s.cpOut = t.cpOut → s.rebootReqs = t.rebootReqs → resetBlock s = resetBlock t) ∧
  ∀ s t : State, exec .flash s = .next t → s.storResults.head? ≠ some false →
    (resetBlock t).devId = s.devId ∧ (resetBlock t).axis = s.axis

/-- How the per-instruction statements reach a step (R96, R192, R198; notes/assumptions/13.md). -/
def Obligations.StepRunsTheDecodedInstruction : Prop :=
  (∀ (s : State) (r : Creq) (i : Instr) (rest : List Event), s.events = .cp r :: rest →
    decode s.params (.creq r) = .ok i → step s = exec i { s with events := rest }) ∧
  (∀ (s : State) (b : Byte) (i : Instr) (rest : List Event), s.events = .rxByte b :: rest →
    s.dir = .rx → s.rxArmed = true → s.rxEsc = false → s.rxCnt = 0#7 → s.rxLen = 1#7 → s.rxBuf ≠ [] →
    s.proto = .waitCommand → decodeCommand s.params b [] = .ok i →
    step s = exec i (completed b { s with events := rest })) ∧
  (∀ (s : State) (b : Byte) (c : Command) (i : Instr) (rest : List Event), s.events = .rxByte b :: rest →
    s.dir = .rx → s.rxArmed = true → s.rxEsc = false → s.rxCnt = 0#7 → s.rxLen = 1#7 → s.rxBuf ≠ [] →
    (s.proto = .waitAxis ∧ c = .setAxis ∨ s.proto = .waitNewId ∧ c = .setId ∨
      s.proto = .waitNumPages ∧ c = .program) →
    decodePayload s.params c [b] = .ok i → step s = exec i (completed b { s with events := rest })) ∧
  ∀ (s : State) (b : Byte) (i : Instr) (rest : List Event), s.events = .rxByte b :: rest →
    s.dir = .rx → s.rxArmed = true → s.rxEsc = false → s.rxCnt = 15#7 → s.rxLen = 16#7 → 16 ≤ s.rxBuf.length →
    s.proto = .waitUnityOffset → decodePayload s.params .setUnityOffset (s.rxBuf.take 15 ++ [b]) = .ok i →
    step s = exec i (completed b { s with events := rest })

/-- R52, R53; the zero contents of the two buffers are the model's choice (notes/assumptions/4.md) and no clause rests on them. -/
def Obligations.ResetStateKeepsTheInvariants : Prop :=
  Inv State.reset

/-- R52, which the spec derives, made inductive by the clauses of Inv that are the model's. -/
def Obligations.EveryStepKeepsTheInvariants : Prop :=
  ∀ s t : State, Inv s → step s = .next t → Inv t ∧ t.params = s.params

/-- R176, R240: nothing traps and the codec's preconditions always hold (decision D41); the reserved codes are the decision D4. -/
def Obligations.OnlyReservedRequestsAreRefused : Prop :=
  ∀ s : State, Inv s →
    (∃ t : State, step s = .next t) ∨
    ∃ (r : Creq) (rest : List Event), s.events = .cp r :: rest ∧ r.op ∈ reservedOps ∧
      step s = .refused (.reservedOp r.op)

/-- R23, R26, R27 and the table of writers R54. The byte named is the one that stands in RX_BUF[0] when the receive completes; in a one-byte receive, the only one R52 allows in these states, it is the byte of the event itself (completesWith). The reset by the block itself is the spec's decision D42, the SAMPLE step its decision D36; resetIn rests on notes/assumptions/11.md and 16.md. -/
def Obligations.ConfigurationIsWrittenOnlyByItsCommands : Prop :=
  ∀ s t : State, step s = .next t →
    resetIn s t ∨
    ((t.devId = s.devId ∨ s.proto = .waitNewId ∧ ∃ b rest, s.events = .rxByte b :: rest ∧ completesWith t.devId b s) ∧
     (t.axis = s.axis ∨ s.proto = .waitAxis ∧
       ∃ a b rest, s.events = .rxByte b :: rest ∧ completesWith a b s ∧ t.axis = axisOfByte a) ∧
     (t.qUnity = s.qUnity ∨ s.proto = .waitUnityOffset ∧
       ∃ b rest, s.events = .rxByte b :: rest ∧ completesReceive s ∧
         quatOfBytes s.params.wordOrder ((bufferWith b s).take 16) = some t.qUnity) ∧
     (t.qChip = s.qChip ∨ s.proto = .waitCommand ∧ t.qChip = qinvQ s.qRaw ∧
       ∃ b rest, s.events = .rxByte b :: rest ∧ completesWith s.params.ops.setChipOffset b s) ∧
     (t.qOut = s.qOut ∧ t.qRaw = s.qRaw ∨
       ∃ q rest, s.events = .sample q :: rest ∧ t.qRaw = q ∧ t.qOut = qpipeQ s.qChip q s.qUnity s.axis))

/-- R66, R69, R70, R211, R219; the page loop is the decision D25. The opcode byte is the one that stands in RX_BUF[0] when the receive completes; in a one-byte receive, the only one R52 allows in WaitCommand, it is the byte of the event itself (completesWith). That a write which the collaborator fails leaves the old contents whole, so that the record and program memory are each exactly the old or exactly the new, is the model's choice (notes/assumptions/6.md). The layout of the record is the spec's decision D29 (R67, notes/assumptions/14.md). The keys are the model's choice (notes/assumptions/7.md), and so is that nothing but the page is written (notes/assumptions/18.md). -/
def Obligations.StorageIsWrittenOnlyByFlashAndPages : Prop :=
  ∀ s t : State, step s = .next t →
    (t.record = s.record ∨
      s.proto = .waitCommand ∧ t.record = currentRecord s ∧
        ∃ b rest, s.events = .rxByte b :: rest ∧ completesWith s.params.ops.flash b s) ∧
    (t.progMem = s.progMem ∨
      s.proto = .flashing ∧ ∃ b rest, s.events = .rxByte b :: rest ∧ completesReceive s ∧
        (CodecInv s → s.rxLen = 64#7) ∧
        t.progMem = memWriteBytes s.progMem (pageKey s.pageIdx) ((bufferWith b s).take 64))

/-- R29, R196, R227, R230: a one-time detour (decision D26); the reboot is the decision D42. In a one-byte receive, the only one R52 allows in these states, the byte named is the byte of the event itself (completesWith); resetIn rests on notes/assumptions/11.md and 16.md. -/
def Obligations.HandshakeIsTakenOncePerBoot : Prop :=
  ∀ s t : State, step s = .next t →
    (t.fwDone = s.fwDone ∨
      (t.fwDone = true ∧ s.proto = .downloadingFirmware ∧ ∃ rest, s.events = .fwDone :: rest) ∨
      (t.fwDone = false ∧ resetIn s t)) ∧
    (t.proto = .downloadingFirmware → s.proto = .downloadingFirmware ∨
      s.proto = .waitId ∧ s.fwDone = false ∧
        ∃ b rest, s.events = .rxByte b :: rest ∧ completesWith s.params.broadcastId b s)

/-- R262. That the idle block is a step with an empty list of events is the model's reading (notes/assumptions/1.md). -/
def Obligations.IdleBlockKeepsItsState : Prop :=
  ∀ s : State, s.events = [] → step s = .next s
end

