-- ==== Sys2Proof/Laws/Memory.lean ====
section
/-! SUPPORT. Program memory (spec 20_memory.md R70): a read after a write gives what was written, a write leaves every
other key alone, and every memory operation keeps the canonical form. -/

namespace Sys2Proof.Machine

open Sys2Proof

/-- A key read after a write. -/
theorem memRead_memWrite (m : Memory) (k : Nat) (v : Byte) (j : Nat) :
    memRead (memWrite m k v) j = if k = j then some v else memRead m j := by
  induction m with
  | nil => rfl
  | cons e m ih =>
    obtain ⟨a, b⟩ := e
    unfold memWrite
    split
    · rfl
    · split
      · rename_i h
        subst h
        simp only [memRead]
        split <;> rfl
      · simp only [memRead, ih]
        split
        · split <;> first | rfl | omega
        · rfl

/-- The written key reads as the written byte. -/
@[simp] theorem memRead_memWrite_same (m : Memory) (k : Nat) (v : Byte) :
    memRead (memWrite m k v) k = some v := by simp [memRead_memWrite]

/-- Every other key reads as before. -/
theorem memRead_memWrite_of_ne (m : Memory) {k j : Nat} (v : Byte) (h : k ≠ j) :
    memRead (memWrite m k v) j = memRead m j := by simp [memRead_memWrite, h]

/-- A key outside the written bytes reads as before. -/
theorem memRead_memWriteBytes_outside (vs : List Byte) (m : Memory) {k j : Nat} (h : j < k ∨ k + vs.length ≤ j) :
    memRead (memWriteBytes m k vs) j = memRead m j := by
  induction vs generalizing m k with
  | nil => rfl
  | cons v vs ih =>
    simp only [List.length_cons] at h
    rw [memWriteBytes, ih _ (by omega), memRead_memWrite_of_ne _ _ (by omega)]

/-- A key inside the written bytes reads as the byte written there. -/
theorem memRead_memWriteBytes_inside (vs : List Byte) (m : Memory) {k i : Nat} (h : i < vs.length) :
    memRead (memWriteBytes m k vs) (k + i) = vs[i]? := by
  induction vs generalizing m k i with
  | nil => cases h
  | cons v vs ih =>
    cases i with
    | zero => rw [memWriteBytes, memRead_memWriteBytes_outside _ _ (by omega)]; simp
    | succ i =>
      have e : k + (i + 1) = k + 1 + i := by omega
      rw [memWriteBytes, e, ih _ (by simpa using h), List.getElem?_cons_succ]

/-- Keys above a bound stay above it when a key above it is written. -/
theorem rising_memWrite {l : Nat} {m : Memory} (k : Nat) (v : Byte) (h : Memory.rising l m = true) (hk : l < k) :
    Memory.rising l (memWrite m k v) = true := by
  induction m generalizing l with
  | nil => simp [memWrite, Memory.rising, hk]
  | cons e m ih =>
    obtain ⟨a, b⟩ := e
    simp only [Memory.rising, Bool.and_eq_true, decide_eq_true_eq] at h
    unfold memWrite
    split
    · simp [Memory.rising, h.2, *]
    · split
      · rename_i e
        simp [Memory.rising, e, h.1, h.2]
      · simp only [Memory.rising, Bool.and_eq_true, decide_eq_true_eq]
        exact ⟨h.1, ih h.2 (by omega)⟩

/-- A write of one byte keeps the canonical form. -/
theorem wf_memWrite {m : Memory} (k : Nat) (v : Byte) (h : Memory.wf m = true) :
    Memory.wf (memWrite m k v) = true := by
  cases m with
  | nil => rfl
  | cons e m =>
    obtain ⟨a, b⟩ := e
    simp only [Memory.wf] at h
    unfold memWrite
    split
    · simp [Memory.wf, Memory.rising, *]
    · split
      · rename_i e
        simpa [Memory.wf, e] using h
      · exact rising_memWrite k v h (by omega)

/-- A write of a list of bytes keeps the canonical form. -/
theorem wf_memWriteBytes (vs : List Byte) {m : Memory} (k : Nat) (h : Memory.wf m = true) :
    Memory.wf (memWriteBytes m k vs) = true := by
  induction vs generalizing m k with
  | nil => exact h
  | cons v vs ih => exact ih _ (wf_memWrite k v h)

/-- `StorProgram` keeps the canonical form, whether it takes effect or not. -/
theorem wf_storProgram (i : BitVec 8) (page : List Byte) (s : State) (h : Memory.wf s.progMem = true) :
    Memory.wf (storProgram i page s).progMem = true := by
  unfold storProgram
  dsimp only
  split
  · exact wf_memWriteBytes page _ h
  · exact h

/-- Program memory at reset has the canonical form. -/
theorem wf_reset : Memory.wf State.reset.progMem = true := rfl

end Sys2Proof.Machine
end

