-- ==== Sys2Proof/Laws/State.lean ====
section
/-! SUPPORT. One lemma per field for each named update of the state, so that no proof unfolds a record update. -/

namespace Sys2Proof.Machine

open Sys2Proof

variable (s : State)

/-! ### `STATE <- st` -/

@[simp] theorem setProto_params (st : ProtoState) : (setProto st s).params = s.params := rfl
@[simp] theorem setProto_qRaw (st : ProtoState) : (setProto st s).qRaw = s.qRaw := rfl
@[simp] theorem setProto_qChip (st : ProtoState) : (setProto st s).qChip = s.qChip := rfl
@[simp] theorem setProto_qUnity (st : ProtoState) : (setProto st s).qUnity = s.qUnity := rfl
@[simp] theorem setProto_qOut (st : ProtoState) : (setProto st s).qOut = s.qOut := rfl
@[simp] theorem setProto_proto (st : ProtoState) : (setProto st s).proto = st := rfl
@[simp] theorem setProto_devId (st : ProtoState) : (setProto st s).devId = s.devId := rfl
@[simp] theorem setProto_axis (st : ProtoState) : (setProto st s).axis = s.axis := rfl
@[simp] theorem setProto_compassAcc (st : ProtoState) : (setProto st s).compassAcc = s.compassAcc := rfl
@[simp] theorem setProto_fwDone (st : ProtoState) : (setProto st s).fwDone = s.fwDone := rfl
@[simp] theorem setProto_dir (st : ProtoState) : (setProto st s).dir = s.dir := rfl
@[simp] theorem setProto_rxEsc (st : ProtoState) : (setProto st s).rxEsc = s.rxEsc := rfl
@[simp] theorem setProto_rxArmed (st : ProtoState) : (setProto st s).rxArmed = s.rxArmed := rfl
@[simp] theorem setProto_rxLen (st : ProtoState) : (setProto st s).rxLen = s.rxLen := rfl
@[simp] theorem setProto_rxCnt (st : ProtoState) : (setProto st s).rxCnt = s.rxCnt := rfl
@[simp] theorem setProto_rxBuf (st : ProtoState) : (setProto st s).rxBuf = s.rxBuf := rfl
@[simp] theorem setProto_txActive (st : ProtoState) : (setProto st s).txActive = s.txActive := rfl
@[simp] theorem setProto_txLen (st : ProtoState) : (setProto st s).txLen = s.txLen := rfl
@[simp] theorem setProto_txCnt (st : ProtoState) : (setProto st s).txCnt = s.txCnt := rfl
@[simp] theorem setProto_txPad (st : ProtoState) : (setProto st s).txPad = s.txPad := rfl
@[simp] theorem setProto_txBuf (st : ProtoState) : (setProto st s).txBuf = s.txBuf := rfl
@[simp] theorem setProto_txDrain (st : ProtoState) : (setProto st s).txDrain = s.txDrain := rfl
@[simp] theorem setProto_pages (st : ProtoState) : (setProto st s).pages = s.pages := rfl
@[simp] theorem setProto_pageIdx (st : ProtoState) : (setProto st s).pageIdx = s.pageIdx := rfl
@[simp] theorem setProto_record (st : ProtoState) : (setProto st s).record = s.record := rfl
@[simp] theorem setProto_progMem (st : ProtoState) : (setProto st s).progMem = s.progMem := rfl
@[simp] theorem setProto_storResults (st : ProtoState) : (setProto st s).storResults = s.storResults := rfl
@[simp] theorem setProto_events (st : ProtoState) : (setProto st s).events = s.events := rfl
@[simp] theorem setProto_wireOut (st : ProtoState) : (setProto st s).wireOut = s.wireOut := rfl
@[simp] theorem setProto_cpOut (st : ProtoState) : (setProto st s).cpOut = s.cpOut := rfl
@[simp] theorem setProto_rebootReqs (st : ProtoState) : (setProto st s).rebootReqs = s.rebootReqs := rfl

/-! ### The writes of `Arm(n)` (R170) -/

@[simp] theorem armed_params (n : Nat) : (armed n s).params = s.params := rfl
@[simp] theorem armed_qRaw (n : Nat) : (armed n s).qRaw = s.qRaw := rfl
@[simp] theorem armed_qChip (n : Nat) : (armed n s).qChip = s.qChip := rfl
@[simp] theorem armed_qUnity (n : Nat) : (armed n s).qUnity = s.qUnity := rfl
@[simp] theorem armed_qOut (n : Nat) : (armed n s).qOut = s.qOut := rfl
@[simp] theorem armed_proto (n : Nat) : (armed n s).proto = s.proto := rfl
@[simp] theorem armed_devId (n : Nat) : (armed n s).devId = s.devId := rfl
@[simp] theorem armed_axis (n : Nat) : (armed n s).axis = s.axis := rfl
@[simp] theorem armed_compassAcc (n : Nat) : (armed n s).compassAcc = s.compassAcc := rfl
@[simp] theorem armed_fwDone (n : Nat) : (armed n s).fwDone = s.fwDone := rfl
@[simp] theorem armed_dir (n : Nat) : (armed n s).dir = s.dir := rfl
@[simp] theorem armed_rxEsc (n : Nat) : (armed n s).rxEsc = s.rxEsc := rfl
@[simp] theorem armed_rxArmed (n : Nat) : (armed n s).rxArmed = true := rfl
@[simp] theorem armed_rxLen (n : Nat) : (armed n s).rxLen = BitVec.ofNat 7 n := rfl
@[simp] theorem armed_rxCnt (n : Nat) : (armed n s).rxCnt = 0#7 := rfl
@[simp] theorem armed_rxBuf (n : Nat) : (armed n s).rxBuf = s.rxBuf := rfl
@[simp] theorem armed_txActive (n : Nat) : (armed n s).txActive = s.txActive := rfl
@[simp] theorem armed_txLen (n : Nat) : (armed n s).txLen = s.txLen := rfl
@[simp] theorem armed_txCnt (n : Nat) : (armed n s).txCnt = s.txCnt := rfl
@[simp] theorem armed_txPad (n : Nat) : (armed n s).txPad = s.txPad := rfl
@[simp] theorem armed_txBuf (n : Nat) : (armed n s).txBuf = s.txBuf := rfl
@[simp] theorem armed_txDrain (n : Nat) : (armed n s).txDrain = s.txDrain := rfl
@[simp] theorem armed_pages (n : Nat) : (armed n s).pages = s.pages := rfl
@[simp] theorem armed_pageIdx (n : Nat) : (armed n s).pageIdx = s.pageIdx := rfl
@[simp] theorem armed_record (n : Nat) : (armed n s).record = s.record := rfl
@[simp] theorem armed_progMem (n : Nat) : (armed n s).progMem = s.progMem := rfl
@[simp] theorem armed_storResults (n : Nat) : (armed n s).storResults = s.storResults := rfl
@[simp] theorem armed_events (n : Nat) : (armed n s).events = s.events := rfl
@[simp] theorem armed_wireOut (n : Nat) : (armed n s).wireOut = s.wireOut := rfl
@[simp] theorem armed_cpOut (n : Nat) : (armed n s).cpOut = s.cpOut := rfl
@[simp] theorem armed_rebootReqs (n : Nat) : (armed n s).rebootReqs = s.rebootReqs := rfl

/-! ### The writes of `Send(frame)` (R166) -/

@[simp] theorem sending_params (frame : List Byte) : (sending frame s).params = s.params := rfl
@[simp] theorem sending_qRaw (frame : List Byte) : (sending frame s).qRaw = s.qRaw := rfl
@[simp] theorem sending_qChip (frame : List Byte) : (sending frame s).qChip = s.qChip := rfl
@[simp] theorem sending_qUnity (frame : List Byte) : (sending frame s).qUnity = s.qUnity := rfl
@[simp] theorem sending_qOut (frame : List Byte) : (sending frame s).qOut = s.qOut := rfl
@[simp] theorem sending_proto (frame : List Byte) : (sending frame s).proto = s.proto := rfl
@[simp] theorem sending_devId (frame : List Byte) : (sending frame s).devId = s.devId := rfl
@[simp] theorem sending_axis (frame : List Byte) : (sending frame s).axis = s.axis := rfl
@[simp] theorem sending_compassAcc (frame : List Byte) : (sending frame s).compassAcc = s.compassAcc := rfl
@[simp] theorem sending_fwDone (frame : List Byte) : (sending frame s).fwDone = s.fwDone := rfl
@[simp] theorem sending_dir (frame : List Byte) : (sending frame s).dir = .tx := rfl
@[simp] theorem sending_rxEsc (frame : List Byte) : (sending frame s).rxEsc = s.rxEsc := rfl
@[simp] theorem sending_rxArmed (frame : List Byte) : (sending frame s).rxArmed = s.rxArmed := rfl
@[simp] theorem sending_rxLen (frame : List Byte) : (sending frame s).rxLen = s.rxLen := rfl
@[simp] theorem sending_rxCnt (frame : List Byte) : (sending frame s).rxCnt = s.rxCnt := rfl
@[simp] theorem sending_rxBuf (frame : List Byte) : (sending frame s).rxBuf = s.rxBuf := rfl
@[simp] theorem sending_txActive (frame : List Byte) : (sending frame s).txActive = true := rfl
@[simp] theorem sending_txLen (frame : List Byte) : (sending frame s).txLen = BitVec.ofNat 5 frame.length := rfl
@[simp] theorem sending_txCnt (frame : List Byte) : (sending frame s).txCnt = 0#5 := rfl
@[simp] theorem sending_txPad (frame : List Byte) : (sending frame s).txPad = false := rfl
@[simp] theorem sending_txBuf (frame : List Byte) : (sending frame s).txBuf =
    frame ++ s.txBuf.drop frame.length := rfl
@[simp] theorem sending_txDrain (frame : List Byte) : (sending frame s).txDrain = false := rfl
@[simp] theorem sending_pages (frame : List Byte) : (sending frame s).pages = s.pages := rfl
@[simp] theorem sending_pageIdx (frame : List Byte) : (sending frame s).pageIdx = s.pageIdx := rfl
@[simp] theorem sending_record (frame : List Byte) : (sending frame s).record = s.record := rfl
@[simp] theorem sending_progMem (frame : List Byte) : (sending frame s).progMem = s.progMem := rfl
@[simp] theorem sending_storResults (frame : List Byte) : (sending frame s).storResults = s.storResults := rfl
@[simp] theorem sending_events (frame : List Byte) : (sending frame s).events = s.events := rfl
@[simp] theorem sending_wireOut (frame : List Byte) : (sending frame s).wireOut = s.wireOut := rfl
@[simp] theorem sending_cpOut (frame : List Byte) : (sending frame s).cpOut = s.cpOut := rfl
@[simp] theorem sending_rebootReqs (frame : List Byte) : (sending frame s).rebootReqs = s.rebootReqs := rfl

/-! ### A compute request is answered (R96) -/

@[simp] theorem cpReturned_params (r : Quat) : (cpReturned r s).params = s.params := rfl
@[simp] theorem cpReturned_qRaw (r : Quat) : (cpReturned r s).qRaw = s.qRaw := rfl
@[simp] theorem cpReturned_qChip (r : Quat) : (cpReturned r s).qChip = s.qChip := rfl
@[simp] theorem cpReturned_qUnity (r : Quat) : (cpReturned r s).qUnity = s.qUnity := rfl
@[simp] theorem cpReturned_qOut (r : Quat) : (cpReturned r s).qOut = s.qOut := rfl
@[simp] theorem cpReturned_proto (r : Quat) : (cpReturned r s).proto = s.proto := rfl
@[simp] theorem cpReturned_devId (r : Quat) : (cpReturned r s).devId = s.devId := rfl
@[simp] theorem cpReturned_axis (r : Quat) : (cpReturned r s).axis = s.axis := rfl
@[simp] theorem cpReturned_compassAcc (r : Quat) : (cpReturned r s).compassAcc = s.compassAcc := rfl
@[simp] theorem cpReturned_fwDone (r : Quat) : (cpReturned r s).fwDone = s.fwDone := rfl
@[simp] theorem cpReturned_dir (r : Quat) : (cpReturned r s).dir = s.dir := rfl
@[simp] theorem cpReturned_rxEsc (r : Quat) : (cpReturned r s).rxEsc = s.rxEsc := rfl
@[simp] theorem cpReturned_rxArmed (r : Quat) : (cpReturned r s).rxArmed = s.rxArmed := rfl
@[simp] theorem cpReturned_rxLen (r : Quat) : (cpReturned r s).rxLen = s.rxLen := rfl
@[simp] theorem cpReturned_rxCnt (r : Quat) : (cpReturned r s).rxCnt = s.rxCnt := rfl
@[simp] theorem cpReturned_rxBuf (r : Quat) : (cpReturned r s).rxBuf = s.rxBuf := rfl
@[simp] theorem cpReturned_txActive (r : Quat) : (cpReturned r s).txActive = s.txActive := rfl
@[simp] theorem cpReturned_txLen (r : Quat) : (cpReturned r s).txLen = s.txLen := rfl
@[simp] theorem cpReturned_txCnt (r : Quat) : (cpReturned r s).txCnt = s.txCnt := rfl
@[simp] theorem cpReturned_txPad (r : Quat) : (cpReturned r s).txPad = s.txPad := rfl
@[simp] theorem cpReturned_txBuf (r : Quat) : (cpReturned r s).txBuf = s.txBuf := rfl
@[simp] theorem cpReturned_txDrain (r : Quat) : (cpReturned r s).txDrain = s.txDrain := rfl
@[simp] theorem cpReturned_pages (r : Quat) : (cpReturned r s).pages = s.pages := rfl
@[simp] theorem cpReturned_pageIdx (r : Quat) : (cpReturned r s).pageIdx = s.pageIdx := rfl
@[simp] theorem cpReturned_record (r : Quat) : (cpReturned r s).record = s.record := rfl
@[simp] theorem cpReturned_progMem (r : Quat) : (cpReturned r s).progMem = s.progMem := rfl
@[simp] theorem cpReturned_storResults (r : Quat) : (cpReturned r s).storResults = s.storResults := rfl
@[simp] theorem cpReturned_events (r : Quat) : (cpReturned r s).events = s.events := rfl
@[simp] theorem cpReturned_wireOut (r : Quat) : (cpReturned r s).wireOut = s.wireOut := rfl
@[simp] theorem cpReturned_cpOut (r : Quat) : (cpReturned r s).cpOut = s.cpOut ++ [r] := rfl
@[simp] theorem cpReturned_rebootReqs (r : Quat) : (cpReturned r s).rebootReqs = s.rebootReqs := rfl

/-! ### `StorWrite` (R69, R71) -/

@[simp] theorem storWrite_params (rec : ConfigRecord) : (storWrite rec s).params = s.params := rfl
@[simp] theorem storWrite_qRaw (rec : ConfigRecord) : (storWrite rec s).qRaw = s.qRaw := rfl
@[simp] theorem storWrite_qChip (rec : ConfigRecord) : (storWrite rec s).qChip = s.qChip := rfl
@[simp] theorem storWrite_qUnity (rec : ConfigRecord) : (storWrite rec s).qUnity = s.qUnity := rfl
@[simp] theorem storWrite_qOut (rec : ConfigRecord) : (storWrite rec s).qOut = s.qOut := rfl
@[simp] theorem storWrite_proto (rec : ConfigRecord) : (storWrite rec s).proto = s.proto := rfl
@[simp] theorem storWrite_devId (rec : ConfigRecord) : (storWrite rec s).devId = s.devId := rfl
@[simp] theorem storWrite_axis (rec : ConfigRecord) : (storWrite rec s).axis = s.axis := rfl
@[simp] theorem storWrite_compassAcc (rec : ConfigRecord) : (storWrite rec s).compassAcc = s.compassAcc := rfl
@[simp] theorem storWrite_fwDone (rec : ConfigRecord) : (storWrite rec s).fwDone = s.fwDone := rfl
@[simp] theorem storWrite_dir (rec : ConfigRecord) : (storWrite rec s).dir = s.dir := rfl
@[simp] theorem storWrite_rxEsc (rec : ConfigRecord) : (storWrite rec s).rxEsc = s.rxEsc := rfl
@[simp] theorem storWrite_rxArmed (rec : ConfigRecord) : (storWrite rec s).rxArmed = s.rxArmed := rfl
@[simp] theorem storWrite_rxLen (rec : ConfigRecord) : (storWrite rec s).rxLen = s.rxLen := rfl
@[simp] theorem storWrite_rxCnt (rec : ConfigRecord) : (storWrite rec s).rxCnt = s.rxCnt := rfl
@[simp] theorem storWrite_rxBuf (rec : ConfigRecord) : (storWrite rec s).rxBuf = s.rxBuf := rfl
@[simp] theorem storWrite_txActive (rec : ConfigRecord) : (storWrite rec s).txActive = s.txActive := rfl
@[simp] theorem storWrite_txLen (rec : ConfigRecord) : (storWrite rec s).txLen = s.txLen := rfl
@[simp] theorem storWrite_txCnt (rec : ConfigRecord) : (storWrite rec s).txCnt = s.txCnt := rfl
@[simp] theorem storWrite_txPad (rec : ConfigRecord) : (storWrite rec s).txPad = s.txPad := rfl
@[simp] theorem storWrite_txBuf (rec : ConfigRecord) : (storWrite rec s).txBuf = s.txBuf := rfl
@[simp] theorem storWrite_txDrain (rec : ConfigRecord) : (storWrite rec s).txDrain = s.txDrain := rfl
@[simp] theorem storWrite_pages (rec : ConfigRecord) : (storWrite rec s).pages = s.pages := rfl
@[simp] theorem storWrite_pageIdx (rec : ConfigRecord) : (storWrite rec s).pageIdx = s.pageIdx := rfl
@[simp] theorem storWrite_record (rec : ConfigRecord) : (storWrite rec s).record =
    if storTakes s then rec else s.record := rfl
@[simp] theorem storWrite_progMem (rec : ConfigRecord) : (storWrite rec s).progMem = s.progMem := rfl
@[simp] theorem storWrite_storResults (rec : ConfigRecord) : (storWrite rec s).storResults = s.storResults.tail := rfl
@[simp] theorem storWrite_events (rec : ConfigRecord) : (storWrite rec s).events = s.events := rfl
@[simp] theorem storWrite_wireOut (rec : ConfigRecord) : (storWrite rec s).wireOut = s.wireOut := rfl
@[simp] theorem storWrite_cpOut (rec : ConfigRecord) : (storWrite rec s).cpOut = s.cpOut := rfl
@[simp] theorem storWrite_rebootReqs (rec : ConfigRecord) : (storWrite rec s).rebootReqs = s.rebootReqs := rfl

/-! ### `StorProgram` (R70, R71) -/

@[simp] theorem storProgram_params (i : BitVec 8) (page : List Byte) : (storProgram i page s).params = s.params := rfl
@[simp] theorem storProgram_qRaw (i : BitVec 8) (page : List Byte) : (storProgram i page s).qRaw = s.qRaw := rfl
@[simp] theorem storProgram_qChip (i : BitVec 8) (page : List Byte) : (storProgram i page s).qChip = s.qChip := rfl
@[simp] theorem storProgram_qUnity (i : BitVec 8) (page : List Byte) : (storProgram i page s).qUnity = s.qUnity := rfl
@[simp] theorem storProgram_qOut (i : BitVec 8) (page : List Byte) : (storProgram i page s).qOut = s.qOut := rfl
@[simp] theorem storProgram_proto (i : BitVec 8) (page : List Byte) : (storProgram i page s).proto = s.proto := rfl
@[simp] theorem storProgram_devId (i : BitVec 8) (page : List Byte) : (storProgram i page s).devId = s.devId := rfl
@[simp] theorem storProgram_axis (i : BitVec 8) (page : List Byte) : (storProgram i page s).axis = s.axis := rfl
@[simp] theorem storProgram_compassAcc (i : BitVec 8) (page : List Byte) : (storProgram i page s).compassAcc =
    s.compassAcc := rfl
@[simp] theorem storProgram_fwDone (i : BitVec 8) (page : List Byte) : (storProgram i page s).fwDone = s.fwDone := rfl
@[simp] theorem storProgram_dir (i : BitVec 8) (page : List Byte) : (storProgram i page s).dir = s.dir := rfl
@[simp] theorem storProgram_rxEsc (i : BitVec 8) (page : List Byte) : (storProgram i page s).rxEsc = s.rxEsc := rfl
@[simp] theorem storProgram_rxArmed (i : BitVec 8) (page : List Byte) : (storProgram i page s).rxArmed =
    s.rxArmed := rfl
@[simp] theorem storProgram_rxLen (i : BitVec 8) (page : List Byte) : (storProgram i page s).rxLen = s.rxLen := rfl
@[simp] theorem storProgram_rxCnt (i : BitVec 8) (page : List Byte) : (storProgram i page s).rxCnt = s.rxCnt := rfl
@[simp] theorem storProgram_rxBuf (i : BitVec 8) (page : List Byte) : (storProgram i page s).rxBuf = s.rxBuf := rfl
@[simp] theorem storProgram_txActive (i : BitVec 8) (page : List Byte) : (storProgram i page s).txActive =
    s.txActive := rfl
@[simp] theorem storProgram_txLen (i : BitVec 8) (page : List Byte) : (storProgram i page s).txLen = s.txLen := rfl
@[simp] theorem storProgram_txCnt (i : BitVec 8) (page : List Byte) : (storProgram i page s).txCnt = s.txCnt := rfl
@[simp] theorem storProgram_txPad (i : BitVec 8) (page : List Byte) : (storProgram i page s).txPad = s.txPad := rfl
@[simp] theorem storProgram_txBuf (i : BitVec 8) (page : List Byte) : (storProgram i page s).txBuf = s.txBuf := rfl
@[simp] theorem storProgram_txDrain (i : BitVec 8) (page : List Byte) : (storProgram i page s).txDrain =
    s.txDrain := rfl
@[simp] theorem storProgram_pages (i : BitVec 8) (page : List Byte) : (storProgram i page s).pages = s.pages := rfl
@[simp] theorem storProgram_pageIdx (i : BitVec 8) (page : List Byte) : (storProgram i page s).pageIdx =
    s.pageIdx := rfl
@[simp] theorem storProgram_record (i : BitVec 8) (page : List Byte) : (storProgram i page s).record = s.record := rfl
@[simp] theorem storProgram_progMem (i : BitVec 8) (page : List Byte) : (storProgram i page s).progMem =
    if storTakes s then memWriteBytes s.progMem (pageKey i) page else s.progMem := rfl
@[simp] theorem storProgram_storResults (i : BitVec 8) (page : List Byte) : (storProgram i page s).storResults =
    s.storResults.tail := rfl
@[simp] theorem storProgram_events (i : BitVec 8) (page : List Byte) : (storProgram i page s).events = s.events := rfl
@[simp] theorem storProgram_wireOut (i : BitVec 8) (page : List Byte) : (storProgram i page s).wireOut =
    s.wireOut := rfl
@[simp] theorem storProgram_cpOut (i : BitVec 8) (page : List Byte) : (storProgram i page s).cpOut = s.cpOut := rfl
@[simp] theorem storProgram_rebootReqs (i : BitVec 8) (page : List Byte) : (storProgram i page s).rebootReqs =
    s.rebootReqs := rfl

/-! ### Event RESET (R270) -/

@[simp] theorem resetBlock_params : (resetBlock s).params = s.params := rfl
@[simp] theorem resetBlock_qRaw : (resetBlock s).qRaw = identityQuat := rfl
@[simp] theorem resetBlock_qChip : (resetBlock s).qChip = identityQuat := rfl
@[simp] theorem resetBlock_qUnity : (resetBlock s).qUnity = identityQuat := rfl
@[simp] theorem resetBlock_qOut : (resetBlock s).qOut = identityQuat := rfl
@[simp] theorem resetBlock_proto : (resetBlock s).proto = .waitHeader := rfl
@[simp] theorem resetBlock_devId : (resetBlock s).devId = s.record.devId := rfl
@[simp] theorem resetBlock_axis : (resetBlock s).axis = recordAxis s.record := rfl
@[simp] theorem resetBlock_compassAcc : (resetBlock s).compassAcc = 0#2 := rfl
@[simp] theorem resetBlock_fwDone : (resetBlock s).fwDone = false := rfl
@[simp] theorem resetBlock_dir : (resetBlock s).dir = .rx := rfl
@[simp] theorem resetBlock_rxEsc : (resetBlock s).rxEsc = false := rfl
@[simp] theorem resetBlock_rxArmed : (resetBlock s).rxArmed = true := rfl
@[simp] theorem resetBlock_rxLen : (resetBlock s).rxLen = 1#7 := rfl
@[simp] theorem resetBlock_rxCnt : (resetBlock s).rxCnt = 0#7 := rfl
@[simp] theorem resetBlock_rxBuf : (resetBlock s).rxBuf = s.rxBuf := rfl
@[simp] theorem resetBlock_txActive : (resetBlock s).txActive = false := rfl
@[simp] theorem resetBlock_txLen : (resetBlock s).txLen = 0#5 := rfl
@[simp] theorem resetBlock_txCnt : (resetBlock s).txCnt = 0#5 := rfl
@[simp] theorem resetBlock_txPad : (resetBlock s).txPad = false := rfl
@[simp] theorem resetBlock_txBuf : (resetBlock s).txBuf = s.txBuf := rfl
@[simp] theorem resetBlock_txDrain : (resetBlock s).txDrain = false := rfl
@[simp] theorem resetBlock_pages : (resetBlock s).pages = 0#8 := rfl
@[simp] theorem resetBlock_pageIdx : (resetBlock s).pageIdx = 0#8 := rfl
@[simp] theorem resetBlock_record : (resetBlock s).record = s.record := rfl
@[simp] theorem resetBlock_progMem : (resetBlock s).progMem = s.progMem := rfl
@[simp] theorem resetBlock_storResults : (resetBlock s).storResults = s.storResults := rfl
@[simp] theorem resetBlock_events : (resetBlock s).events = s.events := rfl
@[simp] theorem resetBlock_wireOut : (resetBlock s).wireOut = s.wireOut := rfl
@[simp] theorem resetBlock_cpOut : (resetBlock s).cpOut = s.cpOut := rfl
@[simp] theorem resetBlock_rebootReqs : (resetBlock s).rebootReqs = s.rebootReqs := rfl

/-! ### `Reboot()` (R221) -/

@[simp] theorem reboot_params : (reboot s).params = s.params := rfl
@[simp] theorem reboot_qRaw : (reboot s).qRaw = identityQuat := rfl
@[simp] theorem reboot_qChip : (reboot s).qChip = identityQuat := rfl
@[simp] theorem reboot_qUnity : (reboot s).qUnity = identityQuat := rfl
@[simp] theorem reboot_qOut : (reboot s).qOut = identityQuat := rfl
@[simp] theorem reboot_proto : (reboot s).proto = .waitHeader := rfl
@[simp] theorem reboot_devId : (reboot s).devId = s.record.devId := rfl
@[simp] theorem reboot_axis : (reboot s).axis = recordAxis s.record := rfl
@[simp] theorem reboot_compassAcc : (reboot s).compassAcc = 0#2 := rfl
@[simp] theorem reboot_fwDone : (reboot s).fwDone = false := rfl
@[simp] theorem reboot_dir : (reboot s).dir = .rx := rfl
@[simp] theorem reboot_rxEsc : (reboot s).rxEsc = false := rfl
@[simp] theorem reboot_rxArmed : (reboot s).rxArmed = true := rfl
@[simp] theorem reboot_rxLen : (reboot s).rxLen = 1#7 := rfl
@[simp] theorem reboot_rxCnt : (reboot s).rxCnt = 0#7 := rfl
@[simp] theorem reboot_rxBuf : (reboot s).rxBuf = s.rxBuf := rfl
@[simp] theorem reboot_txActive : (reboot s).txActive = false := rfl
@[simp] theorem reboot_txLen : (reboot s).txLen = 0#5 := rfl
@[simp] theorem reboot_txCnt : (reboot s).txCnt = 0#5 := rfl
@[simp] theorem reboot_txPad : (reboot s).txPad = false := rfl
@[simp] theorem reboot_txBuf : (reboot s).txBuf = s.txBuf := rfl
@[simp] theorem reboot_txDrain : (reboot s).txDrain = false := rfl
@[simp] theorem reboot_pages : (reboot s).pages = 0#8 := rfl
@[simp] theorem reboot_pageIdx : (reboot s).pageIdx = 0#8 := rfl
@[simp] theorem reboot_record : (reboot s).record = s.record := rfl
@[simp] theorem reboot_progMem : (reboot s).progMem = s.progMem := rfl
@[simp] theorem reboot_storResults : (reboot s).storResults = s.storResults := rfl
@[simp] theorem reboot_events : (reboot s).events = s.events := rfl
@[simp] theorem reboot_wireOut : (reboot s).wireOut = s.wireOut := rfl
@[simp] theorem reboot_cpOut : (reboot s).cpOut = s.cpOut := rfl
@[simp] theorem reboot_rebootReqs : (reboot s).rebootReqs = s.rebootReqs + 1 := rfl

/-! ### A data byte is stored (R174) -/

@[simp] theorem stored_params (b : Byte) : (stored b s).params = s.params := rfl
@[simp] theorem stored_qRaw (b : Byte) : (stored b s).qRaw = s.qRaw := rfl
@[simp] theorem stored_qChip (b : Byte) : (stored b s).qChip = s.qChip := rfl
@[simp] theorem stored_qUnity (b : Byte) : (stored b s).qUnity = s.qUnity := rfl
@[simp] theorem stored_qOut (b : Byte) : (stored b s).qOut = s.qOut := rfl
@[simp] theorem stored_proto (b : Byte) : (stored b s).proto = s.proto := rfl
@[simp] theorem stored_devId (b : Byte) : (stored b s).devId = s.devId := rfl
@[simp] theorem stored_axis (b : Byte) : (stored b s).axis = s.axis := rfl
@[simp] theorem stored_compassAcc (b : Byte) : (stored b s).compassAcc = s.compassAcc := rfl
@[simp] theorem stored_fwDone (b : Byte) : (stored b s).fwDone = s.fwDone := rfl
@[simp] theorem stored_dir (b : Byte) : (stored b s).dir = s.dir := rfl
@[simp] theorem stored_rxEsc (b : Byte) : (stored b s).rxEsc = nextRxEsc s.params s.rxEsc b := rfl
@[simp] theorem stored_rxArmed (b : Byte) : (stored b s).rxArmed = s.rxArmed := rfl
@[simp] theorem stored_rxLen (b : Byte) : (stored b s).rxLen = s.rxLen := rfl
@[simp] theorem stored_rxCnt (b : Byte) : (stored b s).rxCnt = s.rxCnt + 1#7 := rfl
@[simp] theorem stored_rxBuf (b : Byte) : (stored b s).rxBuf = s.rxBuf.set s.rxCnt.toNat b := rfl
@[simp] theorem stored_txActive (b : Byte) : (stored b s).txActive = s.txActive := rfl
@[simp] theorem stored_txLen (b : Byte) : (stored b s).txLen = s.txLen := rfl
@[simp] theorem stored_txCnt (b : Byte) : (stored b s).txCnt = s.txCnt := rfl
@[simp] theorem stored_txPad (b : Byte) : (stored b s).txPad = s.txPad := rfl
@[simp] theorem stored_txBuf (b : Byte) : (stored b s).txBuf = s.txBuf := rfl
@[simp] theorem stored_txDrain (b : Byte) : (stored b s).txDrain = s.txDrain := rfl
@[simp] theorem stored_pages (b : Byte) : (stored b s).pages = s.pages := rfl
@[simp] theorem stored_pageIdx (b : Byte) : (stored b s).pageIdx = s.pageIdx := rfl
@[simp] theorem stored_record (b : Byte) : (stored b s).record = s.record := rfl
@[simp] theorem stored_progMem (b : Byte) : (stored b s).progMem = s.progMem := rfl
@[simp] theorem stored_storResults (b : Byte) : (stored b s).storResults = s.storResults := rfl
@[simp] theorem stored_events (b : Byte) : (stored b s).events = s.events := rfl
@[simp] theorem stored_wireOut (b : Byte) : (stored b s).wireOut = s.wireOut := rfl
@[simp] theorem stored_cpOut (b : Byte) : (stored b s).cpOut = s.cpOut := rfl
@[simp] theorem stored_rebootReqs (b : Byte) : (stored b s).rebootReqs = s.rebootReqs := rfl

/-! ### A data byte completes the receive (R174) -/

@[simp] theorem completed_params (b : Byte) : (completed b s).params = s.params := rfl
@[simp] theorem completed_qRaw (b : Byte) : (completed b s).qRaw = s.qRaw := rfl
@[simp] theorem completed_qChip (b : Byte) : (completed b s).qChip = s.qChip := rfl
@[simp] theorem completed_qUnity (b : Byte) : (completed b s).qUnity = s.qUnity := rfl
@[simp] theorem completed_qOut (b : Byte) : (completed b s).qOut = s.qOut := rfl
@[simp] theorem completed_proto (b : Byte) : (completed b s).proto = s.proto := rfl
@[simp] theorem completed_devId (b : Byte) : (completed b s).devId = s.devId := rfl
@[simp] theorem completed_axis (b : Byte) : (completed b s).axis = s.axis := rfl
@[simp] theorem completed_compassAcc (b : Byte) : (completed b s).compassAcc = s.compassAcc := rfl
@[simp] theorem completed_fwDone (b : Byte) : (completed b s).fwDone = s.fwDone := rfl
@[simp] theorem completed_dir (b : Byte) : (completed b s).dir = s.dir := rfl
@[simp] theorem completed_rxEsc (b : Byte) : (completed b s).rxEsc = nextRxEsc s.params s.rxEsc b := rfl
@[simp] theorem completed_rxArmed (b : Byte) : (completed b s).rxArmed = false := rfl
@[simp] theorem completed_rxLen (b : Byte) : (completed b s).rxLen = s.rxLen := rfl
@[simp] theorem completed_rxCnt (b : Byte) : (completed b s).rxCnt = s.rxCnt + 1#7 := rfl
@[simp] theorem completed_rxBuf (b : Byte) : (completed b s).rxBuf = s.rxBuf.set s.rxCnt.toNat b := rfl
@[simp] theorem completed_txActive (b : Byte) : (completed b s).txActive = s.txActive := rfl
@[simp] theorem completed_txLen (b : Byte) : (completed b s).txLen = s.txLen := rfl
@[simp] theorem completed_txCnt (b : Byte) : (completed b s).txCnt = s.txCnt := rfl
@[simp] theorem completed_txPad (b : Byte) : (completed b s).txPad = s.txPad := rfl
@[simp] theorem completed_txBuf (b : Byte) : (completed b s).txBuf = s.txBuf := rfl
@[simp] theorem completed_txDrain (b : Byte) : (completed b s).txDrain = s.txDrain := rfl
@[simp] theorem completed_pages (b : Byte) : (completed b s).pages = s.pages := rfl
@[simp] theorem completed_pageIdx (b : Byte) : (completed b s).pageIdx = s.pageIdx := rfl
@[simp] theorem completed_record (b : Byte) : (completed b s).record = s.record := rfl
@[simp] theorem completed_progMem (b : Byte) : (completed b s).progMem = s.progMem := rfl
@[simp] theorem completed_storResults (b : Byte) : (completed b s).storResults = s.storResults := rfl
@[simp] theorem completed_events (b : Byte) : (completed b s).events = s.events := rfl
@[simp] theorem completed_wireOut (b : Byte) : (completed b s).wireOut = s.wireOut := rfl
@[simp] theorem completed_cpOut (b : Byte) : (completed b s).cpOut = s.cpOut := rfl
@[simp] theorem completed_rebootReqs (b : Byte) : (completed b s).rebootReqs = s.rebootReqs := rfl

/-! ### A pad is emitted (R167) -/

@[simp] theorem padSent_params : (padSent s).params = s.params := rfl
@[simp] theorem padSent_qRaw : (padSent s).qRaw = s.qRaw := rfl
@[simp] theorem padSent_qChip : (padSent s).qChip = s.qChip := rfl
@[simp] theorem padSent_qUnity : (padSent s).qUnity = s.qUnity := rfl
@[simp] theorem padSent_qOut : (padSent s).qOut = s.qOut := rfl
@[simp] theorem padSent_proto : (padSent s).proto = s.proto := rfl
@[simp] theorem padSent_devId : (padSent s).devId = s.devId := rfl
@[simp] theorem padSent_axis : (padSent s).axis = s.axis := rfl
@[simp] theorem padSent_compassAcc : (padSent s).compassAcc = s.compassAcc := rfl
@[simp] theorem padSent_fwDone : (padSent s).fwDone = s.fwDone := rfl
@[simp] theorem padSent_dir : (padSent s).dir = s.dir := rfl
@[simp] theorem padSent_rxEsc : (padSent s).rxEsc = s.rxEsc := rfl
@[simp] theorem padSent_rxArmed : (padSent s).rxArmed = s.rxArmed := rfl
@[simp] theorem padSent_rxLen : (padSent s).rxLen = s.rxLen := rfl
@[simp] theorem padSent_rxCnt : (padSent s).rxCnt = s.rxCnt := rfl
@[simp] theorem padSent_rxBuf : (padSent s).rxBuf = s.rxBuf := rfl
@[simp] theorem padSent_txActive : (padSent s).txActive = s.txActive := rfl
@[simp] theorem padSent_txLen : (padSent s).txLen = s.txLen := rfl
@[simp] theorem padSent_txCnt : (padSent s).txCnt = s.txCnt := rfl
@[simp] theorem padSent_txPad : (padSent s).txPad = false := rfl
@[simp] theorem padSent_txBuf : (padSent s).txBuf = s.txBuf := rfl
@[simp] theorem padSent_txDrain : (padSent s).txDrain = nextTxDrain s.txCnt s.txLen false := rfl
@[simp] theorem padSent_pages : (padSent s).pages = s.pages := rfl
@[simp] theorem padSent_pageIdx : (padSent s).pageIdx = s.pageIdx := rfl
@[simp] theorem padSent_record : (padSent s).record = s.record := rfl
@[simp] theorem padSent_progMem : (padSent s).progMem = s.progMem := rfl
@[simp] theorem padSent_storResults : (padSent s).storResults = s.storResults := rfl
@[simp] theorem padSent_events : (padSent s).events = s.events := rfl
@[simp] theorem padSent_wireOut : (padSent s).wireOut = s.wireOut ++ [s.params.pad] := rfl
@[simp] theorem padSent_cpOut : (padSent s).cpOut = s.cpOut := rfl
@[simp] theorem padSent_rebootReqs : (padSent s).rebootReqs = s.rebootReqs := rfl

/-! ### A byte of the frame is emitted (R167) -/

@[simp] theorem byteSent_params (b : Byte) : (byteSent b s).params = s.params := rfl
@[simp] theorem byteSent_qRaw (b : Byte) : (byteSent b s).qRaw = s.qRaw := rfl
@[simp] theorem byteSent_qChip (b : Byte) : (byteSent b s).qChip = s.qChip := rfl
@[simp] theorem byteSent_qUnity (b : Byte) : (byteSent b s).qUnity = s.qUnity := rfl
@[simp] theorem byteSent_qOut (b : Byte) : (byteSent b s).qOut = s.qOut := rfl
@[simp] theorem byteSent_proto (b : Byte) : (byteSent b s).proto = s.proto := rfl
@[simp] theorem byteSent_devId (b : Byte) : (byteSent b s).devId = s.devId := rfl
@[simp] theorem byteSent_axis (b : Byte) : (byteSent b s).axis = s.axis := rfl
@[simp] theorem byteSent_compassAcc (b : Byte) : (byteSent b s).compassAcc = s.compassAcc := rfl
@[simp] theorem byteSent_fwDone (b : Byte) : (byteSent b s).fwDone = s.fwDone := rfl
@[simp] theorem byteSent_dir (b : Byte) : (byteSent b s).dir = s.dir := rfl
@[simp] theorem byteSent_rxEsc (b : Byte) : (byteSent b s).rxEsc = s.rxEsc := rfl
@[simp] theorem byteSent_rxArmed (b : Byte) : (byteSent b s).rxArmed = s.rxArmed := rfl
@[simp] theorem byteSent_rxLen (b : Byte) : (byteSent b s).rxLen = s.rxLen := rfl
@[simp] theorem byteSent_rxCnt (b : Byte) : (byteSent b s).rxCnt = s.rxCnt := rfl
@[simp] theorem byteSent_rxBuf (b : Byte) : (byteSent b s).rxBuf = s.rxBuf := rfl
@[simp] theorem byteSent_txActive (b : Byte) : (byteSent b s).txActive = s.txActive := rfl
@[simp] theorem byteSent_txLen (b : Byte) : (byteSent b s).txLen = s.txLen := rfl
@[simp] theorem byteSent_txCnt (b : Byte) : (byteSent b s).txCnt = s.txCnt + 1#5 := rfl
@[simp] theorem byteSent_txPad (b : Byte) : (byteSent b s).txPad = nextTxPad s.params b := rfl
@[simp] theorem byteSent_txBuf (b : Byte) : (byteSent b s).txBuf = s.txBuf := rfl
@[simp] theorem byteSent_txDrain (b : Byte) : (byteSent b s).txDrain =
    nextTxDrain (s.txCnt + 1#5) s.txLen (nextTxPad s.params b) := rfl
@[simp] theorem byteSent_pages (b : Byte) : (byteSent b s).pages = s.pages := rfl
@[simp] theorem byteSent_pageIdx (b : Byte) : (byteSent b s).pageIdx = s.pageIdx := rfl
@[simp] theorem byteSent_record (b : Byte) : (byteSent b s).record = s.record := rfl
@[simp] theorem byteSent_progMem (b : Byte) : (byteSent b s).progMem = s.progMem := rfl
@[simp] theorem byteSent_storResults (b : Byte) : (byteSent b s).storResults = s.storResults := rfl
@[simp] theorem byteSent_events (b : Byte) : (byteSent b s).events = s.events := rfl
@[simp] theorem byteSent_wireOut (b : Byte) : (byteSent b s).wireOut = s.wireOut ++ [b] := rfl
@[simp] theorem byteSent_cpOut (b : Byte) : (byteSent b s).cpOut = s.cpOut := rfl
@[simp] theorem byteSent_rebootReqs (b : Byte) : (byteSent b s).rebootReqs = s.rebootReqs := rfl

/-! ### The turnaround (R169) -/

@[simp] theorem turnedAround_params : (turnedAround s).params = s.params := rfl
@[simp] theorem turnedAround_qRaw : (turnedAround s).qRaw = s.qRaw := rfl
@[simp] theorem turnedAround_qChip : (turnedAround s).qChip = s.qChip := rfl
@[simp] theorem turnedAround_qUnity : (turnedAround s).qUnity = s.qUnity := rfl
@[simp] theorem turnedAround_qOut : (turnedAround s).qOut = s.qOut := rfl
@[simp] theorem turnedAround_proto : (turnedAround s).proto = s.proto := rfl
@[simp] theorem turnedAround_devId : (turnedAround s).devId = s.devId := rfl
@[simp] theorem turnedAround_axis : (turnedAround s).axis = s.axis := rfl
@[simp] theorem turnedAround_compassAcc : (turnedAround s).compassAcc = s.compassAcc := rfl
@[simp] theorem turnedAround_fwDone : (turnedAround s).fwDone = s.fwDone := rfl
@[simp] theorem turnedAround_dir : (turnedAround s).dir = .rx := rfl
@[simp] theorem turnedAround_rxEsc : (turnedAround s).rxEsc = s.rxEsc := rfl
@[simp] theorem turnedAround_rxArmed : (turnedAround s).rxArmed = s.rxArmed := rfl
@[simp] theorem turnedAround_rxLen : (turnedAround s).rxLen = s.rxLen := rfl
@[simp] theorem turnedAround_rxCnt : (turnedAround s).rxCnt = s.rxCnt := rfl
@[simp] theorem turnedAround_rxBuf : (turnedAround s).rxBuf = s.rxBuf := rfl
@[simp] theorem turnedAround_txActive : (turnedAround s).txActive = false := rfl
@[simp] theorem turnedAround_txLen : (turnedAround s).txLen = s.txLen := rfl
@[simp] theorem turnedAround_txCnt : (turnedAround s).txCnt = s.txCnt := rfl
@[simp] theorem turnedAround_txPad : (turnedAround s).txPad = s.txPad := rfl
@[simp] theorem turnedAround_txBuf : (turnedAround s).txBuf = s.txBuf := rfl
@[simp] theorem turnedAround_txDrain : (turnedAround s).txDrain = false := rfl
@[simp] theorem turnedAround_pages : (turnedAround s).pages = s.pages := rfl
@[simp] theorem turnedAround_pageIdx : (turnedAround s).pageIdx = s.pageIdx := rfl
@[simp] theorem turnedAround_record : (turnedAround s).record = s.record := rfl
@[simp] theorem turnedAround_progMem : (turnedAround s).progMem = s.progMem := rfl
@[simp] theorem turnedAround_storResults : (turnedAround s).storResults = s.storResults := rfl
@[simp] theorem turnedAround_events : (turnedAround s).events = s.events := rfl
@[simp] theorem turnedAround_wireOut : (turnedAround s).wireOut = s.wireOut := rfl
@[simp] theorem turnedAround_cpOut : (turnedAround s).cpOut = s.cpOut := rfl
@[simp] theorem turnedAround_rebootReqs : (turnedAround s).rebootReqs = s.rebootReqs := rfl

/-! ### Event `SAMPLE(q)` (R224) -/

@[simp] theorem sampleEvent_params (q : Quat) : (sampleEvent q s).params = s.params := rfl
@[simp] theorem sampleEvent_qRaw (q : Quat) : (sampleEvent q s).qRaw = q := rfl
@[simp] theorem sampleEvent_qChip (q : Quat) : (sampleEvent q s).qChip = s.qChip := rfl
@[simp] theorem sampleEvent_qUnity (q : Quat) : (sampleEvent q s).qUnity = s.qUnity := rfl
@[simp] theorem sampleEvent_qOut (q : Quat) : (sampleEvent q s).qOut = qpipeQ s.qChip q s.qUnity s.axis := rfl
@[simp] theorem sampleEvent_proto (q : Quat) : (sampleEvent q s).proto = s.proto := rfl
@[simp] theorem sampleEvent_devId (q : Quat) : (sampleEvent q s).devId = s.devId := rfl
@[simp] theorem sampleEvent_axis (q : Quat) : (sampleEvent q s).axis = s.axis := rfl
@[simp] theorem sampleEvent_compassAcc (q : Quat) : (sampleEvent q s).compassAcc = s.compassAcc := rfl
@[simp] theorem sampleEvent_fwDone (q : Quat) : (sampleEvent q s).fwDone = s.fwDone := rfl
@[simp] theorem sampleEvent_dir (q : Quat) : (sampleEvent q s).dir = s.dir := rfl
@[simp] theorem sampleEvent_rxEsc (q : Quat) : (sampleEvent q s).rxEsc = s.rxEsc := rfl
@[simp] theorem sampleEvent_rxArmed (q : Quat) : (sampleEvent q s).rxArmed = s.rxArmed := rfl
@[simp] theorem sampleEvent_rxLen (q : Quat) : (sampleEvent q s).rxLen = s.rxLen := rfl
@[simp] theorem sampleEvent_rxCnt (q : Quat) : (sampleEvent q s).rxCnt = s.rxCnt := rfl
@[simp] theorem sampleEvent_rxBuf (q : Quat) : (sampleEvent q s).rxBuf = s.rxBuf := rfl
@[simp] theorem sampleEvent_txActive (q : Quat) : (sampleEvent q s).txActive = s.txActive := rfl
@[simp] theorem sampleEvent_txLen (q : Quat) : (sampleEvent q s).txLen = s.txLen := rfl
@[simp] theorem sampleEvent_txCnt (q : Quat) : (sampleEvent q s).txCnt = s.txCnt := rfl
@[simp] theorem sampleEvent_txPad (q : Quat) : (sampleEvent q s).txPad = s.txPad := rfl
@[simp] theorem sampleEvent_txBuf (q : Quat) : (sampleEvent q s).txBuf = s.txBuf := rfl
@[simp] theorem sampleEvent_txDrain (q : Quat) : (sampleEvent q s).txDrain = s.txDrain := rfl
@[simp] theorem sampleEvent_pages (q : Quat) : (sampleEvent q s).pages = s.pages := rfl
@[simp] theorem sampleEvent_pageIdx (q : Quat) : (sampleEvent q s).pageIdx = s.pageIdx := rfl
@[simp] theorem sampleEvent_record (q : Quat) : (sampleEvent q s).record = s.record := rfl
@[simp] theorem sampleEvent_progMem (q : Quat) : (sampleEvent q s).progMem = s.progMem := rfl
@[simp] theorem sampleEvent_storResults (q : Quat) : (sampleEvent q s).storResults = s.storResults := rfl
@[simp] theorem sampleEvent_events (q : Quat) : (sampleEvent q s).events = s.events := rfl
@[simp] theorem sampleEvent_wireOut (q : Quat) : (sampleEvent q s).wireOut = s.wireOut := rfl
@[simp] theorem sampleEvent_cpOut (q : Quat) : (sampleEvent q s).cpOut = s.cpOut := rfl
@[simp] theorem sampleEvent_rebootReqs (q : Quat) : (sampleEvent q s).rebootReqs = s.rebootReqs := rfl

/-! ### Event `COMPASS(level)` (R226) -/

@[simp] theorem compassEvent_params (level : Nat) : (compassEvent level s).params = s.params := rfl
@[simp] theorem compassEvent_qRaw (level : Nat) : (compassEvent level s).qRaw = s.qRaw := rfl
@[simp] theorem compassEvent_qChip (level : Nat) : (compassEvent level s).qChip = s.qChip := rfl
@[simp] theorem compassEvent_qUnity (level : Nat) : (compassEvent level s).qUnity = s.qUnity := rfl
@[simp] theorem compassEvent_qOut (level : Nat) : (compassEvent level s).qOut = s.qOut := rfl
@[simp] theorem compassEvent_proto (level : Nat) : (compassEvent level s).proto = s.proto := rfl
@[simp] theorem compassEvent_devId (level : Nat) : (compassEvent level s).devId = s.devId := rfl
@[simp] theorem compassEvent_axis (level : Nat) : (compassEvent level s).axis = s.axis := rfl
@[simp] theorem compassEvent_compassAcc (level : Nat) : (compassEvent level s).compassAcc =
    if s.compassAcc < BitVec.ofNat 2 level then BitVec.ofNat 2 level else s.compassAcc := rfl
@[simp] theorem compassEvent_fwDone (level : Nat) : (compassEvent level s).fwDone = s.fwDone := rfl
@[simp] theorem compassEvent_dir (level : Nat) : (compassEvent level s).dir = s.dir := rfl
@[simp] theorem compassEvent_rxEsc (level : Nat) : (compassEvent level s).rxEsc = s.rxEsc := rfl
@[simp] theorem compassEvent_rxArmed (level : Nat) : (compassEvent level s).rxArmed = s.rxArmed := rfl
@[simp] theorem compassEvent_rxLen (level : Nat) : (compassEvent level s).rxLen = s.rxLen := rfl
@[simp] theorem compassEvent_rxCnt (level : Nat) : (compassEvent level s).rxCnt = s.rxCnt := rfl
@[simp] theorem compassEvent_rxBuf (level : Nat) : (compassEvent level s).rxBuf = s.rxBuf := rfl
@[simp] theorem compassEvent_txActive (level : Nat) : (compassEvent level s).txActive = s.txActive := rfl
@[simp] theorem compassEvent_txLen (level : Nat) : (compassEvent level s).txLen = s.txLen := rfl
@[simp] theorem compassEvent_txCnt (level : Nat) : (compassEvent level s).txCnt = s.txCnt := rfl
@[simp] theorem compassEvent_txPad (level : Nat) : (compassEvent level s).txPad = s.txPad := rfl
@[simp] theorem compassEvent_txBuf (level : Nat) : (compassEvent level s).txBuf = s.txBuf := rfl
@[simp] theorem compassEvent_txDrain (level : Nat) : (compassEvent level s).txDrain = s.txDrain := rfl
@[simp] theorem compassEvent_pages (level : Nat) : (compassEvent level s).pages = s.pages := rfl
@[simp] theorem compassEvent_pageIdx (level : Nat) : (compassEvent level s).pageIdx = s.pageIdx := rfl
@[simp] theorem compassEvent_record (level : Nat) : (compassEvent level s).record = s.record := rfl
@[simp] theorem compassEvent_progMem (level : Nat) : (compassEvent level s).progMem = s.progMem := rfl
@[simp] theorem compassEvent_storResults (level : Nat) : (compassEvent level s).storResults = s.storResults := rfl
@[simp] theorem compassEvent_events (level : Nat) : (compassEvent level s).events = s.events := rfl
@[simp] theorem compassEvent_wireOut (level : Nat) : (compassEvent level s).wireOut = s.wireOut := rfl
@[simp] theorem compassEvent_cpOut (level : Nat) : (compassEvent level s).cpOut = s.cpOut := rfl
@[simp] theorem compassEvent_rebootReqs (level : Nat) : (compassEvent level s).rebootReqs = s.rebootReqs := rfl

/-! ### The writes of `FW_DONE` before its `Arm(1)` (R227) -/

@[simp] theorem firmwareDone_params : (firmwareDone s).params = s.params := rfl
@[simp] theorem firmwareDone_qRaw : (firmwareDone s).qRaw = s.qRaw := rfl
@[simp] theorem firmwareDone_qChip : (firmwareDone s).qChip = s.qChip := rfl
@[simp] theorem firmwareDone_qUnity : (firmwareDone s).qUnity = s.qUnity := rfl
@[simp] theorem firmwareDone_qOut : (firmwareDone s).qOut = s.qOut := rfl
@[simp] theorem firmwareDone_proto : (firmwareDone s).proto = .waitHeader := rfl
@[simp] theorem firmwareDone_devId : (firmwareDone s).devId = s.devId := rfl
@[simp] theorem firmwareDone_axis : (firmwareDone s).axis = s.axis := rfl
@[simp] theorem firmwareDone_compassAcc : (firmwareDone s).compassAcc = s.compassAcc := rfl
@[simp] theorem firmwareDone_fwDone : (firmwareDone s).fwDone = true := rfl
@[simp] theorem firmwareDone_dir : (firmwareDone s).dir = .rx := rfl
@[simp] theorem firmwareDone_rxEsc : (firmwareDone s).rxEsc = false := rfl
@[simp] theorem firmwareDone_rxArmed : (firmwareDone s).rxArmed = s.rxArmed := rfl
@[simp] theorem firmwareDone_rxLen : (firmwareDone s).rxLen = s.rxLen := rfl
@[simp] theorem firmwareDone_rxCnt : (firmwareDone s).rxCnt = s.rxCnt := rfl
@[simp] theorem firmwareDone_rxBuf : (firmwareDone s).rxBuf = s.rxBuf := rfl
@[simp] theorem firmwareDone_txActive : (firmwareDone s).txActive = s.txActive := rfl
@[simp] theorem firmwareDone_txLen : (firmwareDone s).txLen = s.txLen := rfl
@[simp] theorem firmwareDone_txCnt : (firmwareDone s).txCnt = s.txCnt := rfl
@[simp] theorem firmwareDone_txPad : (firmwareDone s).txPad = s.txPad := rfl
@[simp] theorem firmwareDone_txBuf : (firmwareDone s).txBuf = s.txBuf := rfl
@[simp] theorem firmwareDone_txDrain : (firmwareDone s).txDrain = s.txDrain := rfl
@[simp] theorem firmwareDone_pages : (firmwareDone s).pages = s.pages := rfl
@[simp] theorem firmwareDone_pageIdx : (firmwareDone s).pageIdx = s.pageIdx := rfl
@[simp] theorem firmwareDone_record : (firmwareDone s).record = s.record := rfl
@[simp] theorem firmwareDone_progMem : (firmwareDone s).progMem = s.progMem := rfl
@[simp] theorem firmwareDone_storResults : (firmwareDone s).storResults = s.storResults := rfl
@[simp] theorem firmwareDone_events : (firmwareDone s).events = s.events := rfl
@[simp] theorem firmwareDone_wireOut : (firmwareDone s).wireOut = s.wireOut := rfl
@[simp] theorem firmwareDone_cpOut : (firmwareDone s).cpOut = s.cpOut := rfl
@[simp] theorem firmwareDone_rebootReqs : (firmwareDone s).rebootReqs = s.rebootReqs := rfl

/-! ### One more event, the next to come -/

@[simp] theorem withNextEvent_params (e : Event) : (withNextEvent e s).params = s.params := rfl
@[simp] theorem withNextEvent_qRaw (e : Event) : (withNextEvent e s).qRaw = s.qRaw := rfl
@[simp] theorem withNextEvent_qChip (e : Event) : (withNextEvent e s).qChip = s.qChip := rfl
@[simp] theorem withNextEvent_qUnity (e : Event) : (withNextEvent e s).qUnity = s.qUnity := rfl
@[simp] theorem withNextEvent_qOut (e : Event) : (withNextEvent e s).qOut = s.qOut := rfl
@[simp] theorem withNextEvent_proto (e : Event) : (withNextEvent e s).proto = s.proto := rfl
@[simp] theorem withNextEvent_devId (e : Event) : (withNextEvent e s).devId = s.devId := rfl
@[simp] theorem withNextEvent_axis (e : Event) : (withNextEvent e s).axis = s.axis := rfl
@[simp] theorem withNextEvent_compassAcc (e : Event) : (withNextEvent e s).compassAcc = s.compassAcc := rfl
@[simp] theorem withNextEvent_fwDone (e : Event) : (withNextEvent e s).fwDone = s.fwDone := rfl
@[simp] theorem withNextEvent_dir (e : Event) : (withNextEvent e s).dir = s.dir := rfl
@[simp] theorem withNextEvent_rxEsc (e : Event) : (withNextEvent e s).rxEsc = s.rxEsc := rfl
@[simp] theorem withNextEvent_rxArmed (e : Event) : (withNextEvent e s).rxArmed = s.rxArmed := rfl
@[simp] theorem withNextEvent_rxLen (e : Event) : (withNextEvent e s).rxLen = s.rxLen := rfl
@[simp] theorem withNextEvent_rxCnt (e : Event) : (withNextEvent e s).rxCnt = s.rxCnt := rfl
@[simp] theorem withNextEvent_rxBuf (e : Event) : (withNextEvent e s).rxBuf = s.rxBuf := rfl
@[simp] theorem withNextEvent_txActive (e : Event) : (withNextEvent e s).txActive = s.txActive := rfl
@[simp] theorem withNextEvent_txLen (e : Event) : (withNextEvent e s).txLen = s.txLen := rfl
@[simp] theorem withNextEvent_txCnt (e : Event) : (withNextEvent e s).txCnt = s.txCnt := rfl
@[simp] theorem withNextEvent_txPad (e : Event) : (withNextEvent e s).txPad = s.txPad := rfl
@[simp] theorem withNextEvent_txBuf (e : Event) : (withNextEvent e s).txBuf = s.txBuf := rfl
@[simp] theorem withNextEvent_txDrain (e : Event) : (withNextEvent e s).txDrain = s.txDrain := rfl
@[simp] theorem withNextEvent_pages (e : Event) : (withNextEvent e s).pages = s.pages := rfl
@[simp] theorem withNextEvent_pageIdx (e : Event) : (withNextEvent e s).pageIdx = s.pageIdx := rfl
@[simp] theorem withNextEvent_record (e : Event) : (withNextEvent e s).record = s.record := rfl
@[simp] theorem withNextEvent_progMem (e : Event) : (withNextEvent e s).progMem = s.progMem := rfl
@[simp] theorem withNextEvent_storResults (e : Event) : (withNextEvent e s).storResults = s.storResults := rfl
@[simp] theorem withNextEvent_events (e : Event) : (withNextEvent e s).events = e :: s.events := rfl
@[simp] theorem withNextEvent_wireOut (e : Event) : (withNextEvent e s).wireOut = s.wireOut := rfl
@[simp] theorem withNextEvent_cpOut (e : Event) : (withNextEvent e s).cpOut = s.cpOut := rfl
@[simp] theorem withNextEvent_rebootReqs (e : Event) : (withNextEvent e s).rebootReqs = s.rebootReqs := rfl

end Sys2Proof.Machine
end

