-- ==== Sys2Proof/Laws/Ops.lean ====
section
/-! SUPPORT. One lemma for each shared operation that says all it can do: what holds where it gives a next state, and
which one. -/

namespace Sys2Proof.Machine

open Sys2Proof

/-! ## Outcomes -/

/-- A sequence gives a next state exactly where both parts do. -/
theorem andThen_eq_next {o : Result} {f : State → Result} {t : State} :
    andThen o f = .next t ↔ ∃ u, o = .next u ∧ f u = .next t := by
  cases o <;> simp [andThen]

@[simp] theorem andThen_next (u : State) (f : State → Result) : andThen (.next u) f = f u := rfl

@[simp] theorem andThen_refused (r : Refusal) (f : State → Result) : andThen (.refused r) f = .refused r := rfl

/-! ## The codec's procedures -/

/-- The precondition on the two flags, spelt out (R166, R170). -/
theorem noTransfer_eq_true {s : State} : noTransfer s = true ↔ s.txActive = false ∧ s.rxArmed = false := by
  simp [noTransfer]

/-- All that `Arm` can do (R170). -/
theorem arm_eq_next {n : Nat} {s t : State} :
    arm n s = .next t ↔
      (s.txActive = false ∧ s.rxArmed = false) ∧ s.dir = .rx ∧ 1 ≤ n ∧ n ≤ s.params.rxBufSize ∧ t = armed n s := by
  unfold arm
  split
  · rename_i h
    simp only [Bool.and_eq_true, beq_iff_eq, noTransfer_eq_true] at h
    split
    · rename_i hn
      simp [h, hn, eq_comm]
    · rename_i hn
      simp only [reduceCtorEq, false_iff]
      exact fun h' => hn ⟨h'.2.2.1, h'.2.2.2.1⟩
  · rename_i h
    simp only [Bool.and_eq_true, beq_iff_eq, noTransfer_eq_true] at h
    simp only [reduceCtorEq, false_iff]
    exact fun h' => h ⟨h'.1, h'.2.1⟩

/-- `Arm` where its precondition holds. -/
theorem arm_of_ready {n : Nat} {s : State} (htx : s.txActive = false) (hrx : s.rxArmed = false) (hd : s.dir = .rx)
    (h1 : 1 ≤ n) (hn : n ≤ s.params.rxBufSize) : arm n s = .next (armed n s) :=
  arm_eq_next.2 ⟨⟨htx, hrx⟩, hd, h1, hn, rfl⟩

/-- All that `Send` can do (R166). -/
theorem send_eq_next {frame : List Byte} {s t : State} :
    send frame s = .next t ↔
      (s.txActive = false ∧ s.rxArmed = false) ∧ 1 ≤ frame.length ∧ frame.length ≤ s.params.txBufSize ∧
        t = sending frame s := by
  unfold send
  split
  · rename_i h
    rw [noTransfer_eq_true] at h
    split
    · rename_i hn
      simp [h, hn, eq_comm]
    · rename_i hn
      simp only [reduceCtorEq, false_iff]
      exact fun h' => hn ⟨h'.2.1, h'.2.2.1⟩
  · rename_i h
    rw [noTransfer_eq_true] at h
    simp only [reduceCtorEq, false_iff]
    exact fun h' => h h'.1

/-! ## Replies -/

/-- A logical reply frame is its payload and two bytes (R81, R84). -/
@[simp] theorem encodeD2H_length (p : Params) (k : ReplyKind) (payload : List Byte) :
    (encodeD2H p k payload).length = payload.length + 2 := rfl

/-- All that a reply can do (R222). -/
theorem reply_eq_next {k : ReplyKind} {payload : List Byte} {st : ProtoState} {s t : State} :
    reply k payload st s = .next t ↔
      (s.txActive = false ∧ s.rxArmed = false) ∧ payload.length + 2 ≤ s.params.txBufSize ∧
        t = setProto st (sending (encodeD2H s.params k payload) s) := by
  unfold reply
  rw [andThen_eq_next]
  constructor
  · rintro ⟨u, hu, ht⟩
    obtain ⟨h, -, hn, rfl⟩ := send_eq_next.1 hu
    exact ⟨h, hn, (Host.Outcome.next.inj ht).symm⟩
  · rintro ⟨h, hn, rfl⟩
    exact ⟨_, send_eq_next.2 ⟨h, by simp, hn, rfl⟩, rfl⟩

/-- All that an acknowledgement can do (R223). -/
theorem ack_eq_next {st : ProtoState} {s t : State} :
    ack st s = .next t ↔
      (s.txActive = false ∧ s.rxArmed = false) ∧ 3 ≤ s.params.txBufSize ∧
        t = setProto st (sending [s.params.sentinel, s.params.ops.replyAck, s.params.ackSuccess] s) :=
  reply_eq_next

@[simp] theorem wordBytes_length (o : WordOrder) (v : Word) : (wordBytes o v).length = 4 := by cases o <;> rfl

@[simp] theorem quatBytes_length (o : WordOrder) (q : Quat) : (quatBytes o q).length = 16 := by simp [quatBytes]

@[simp] theorem quatPayload_length (s : State) : (quatPayload s).length = 16 := quatBytes_length _ _

/-- All that a REPLY_QUAT can do (R228). -/
theorem sendQuat_eq_next {s t : State} :
    sendQuat s = .next t ↔
      (s.txActive = false ∧ s.rxArmed = false) ∧ 18 ≤ s.params.txBufSize ∧
        t = setProto .replyQuaternion (sending (encodeD2H s.params .quat (quatPayload s)) s) := by
  unfold sendQuat
  rw [reply_eq_next, quatPayload_length]

/-- All that a REPLY_COMPASS_ACC can do (R229). -/
theorem sendCompassAcc_eq_next {s t : State} :
    sendCompassAcc s = .next t ↔
      (s.txActive = false ∧ s.rxArmed = false) ∧ 3 ≤ s.params.txBufSize ∧
        t = setProto .replyCompassAccuracy (sending (encodeD2H s.params .compassAcc [fieldByte s.compassAcc]) s) :=
  reply_eq_next

/-! ## The CP port -/

/-- All that a compute operation with a quaternion result can do (R96). -/
theorem returnQuat_eq_next {r : Quat} {s t : State} : returnQuat r s = .next t ↔ t = cpReturned r s := by
  simp [returnQuat, eq_comm]

/-- All that a compute operation with a word result can do (R96). -/
theorem returnWord_eq_next {r : Word} {s t : State} : returnWord r s = .next t ↔ t = cpReturned (scalarQuat r) s := by
  simp [returnWord, eq_comm]

/-! ## Buffers and steps -/

/-- All that a read of the receive buffer can do (R60). -/
theorem withRxBytes_eq_next {n : Nat} {s t : State} {f : List Byte → Result} :
    withRxBytes n s f = .next t ↔ n ≤ s.rxBuf.length ∧ f (s.rxBuf.take n) = .next t := by
  unfold withRxBytes
  split <;> simp [*]

/-- All that a read of the first byte of the receive buffer can do (R194). -/
theorem withRxByte_eq_next {s t : State} {f : Byte → Result} :
    withRxByte s f = .next t ↔ ∃ b bs, s.rxBuf = b :: bs ∧ f b = .next t := by
  unfold withRxByte
  split <;> simp [*]

/-- A step with nothing to come (R262). -/
theorem step_idle {s : State} (h : s.events = []) : step s = .next s := by
  unfold step
  rw [h]

/-- A step with a port transaction to come (R250). -/
theorem step_event {s : State} {e : Event} {rest : List Event} (h : s.events = e :: rest) :
    step s = handle e { s with events := rest } := by
  unfold step
  rw [h]

/-! ## Words -/

/-- `wrap32` of a value read as an integer is the word (R15). -/
theorem wrap32_s32 (a : Word) : wrap32 (s32 a) = a := BitVec.ofInt_toInt

/-- ADD is addition of words (R111). -/
theorem addW_eq (a b : Word) : addW a b = a + b := by
  simp [addW, wrap32, s32, BitVec.ofInt_add]

/-- NEG is negation of a word (R111). -/
theorem negW_eq (a : Word) : negW a = -a := by
  simp [negW, wrap32, s32, BitVec.ofInt_neg]

/-- SUB is subtraction of words (R111). -/
theorem subW_eq (a b : Word) : subW a b = a - b := by
  simp [subW, wrap32, s32, Int.sub_eq_add_neg, BitVec.ofInt_add, BitVec.ofInt_neg, BitVec.sub_eq_add_neg]

end Sys2Proof.Machine
end

