-- ==== Sys2Proof/Laws/PerInstr.lean ====
section
/-! SUPPORT. The law of one encoder, per instruction: the encoder of an instruction's own format answers and the other two
do not, and a command's payload has the length its opcode fixes (spec 30_encoding.md R81, R86, R96). -/

namespace Sys2Proof.Laws.OneEncoder

open Sys2Proof Sys2Proof.Machine

/-- The encoders that answer for an instruction are those of its format, and a command's payload has the length of
R86. -/
def Statement (i : Instr) : Prop :=
  (encodeCreq i).isSome = (i.format == .creq) ∧
  (∀ p : Params, (commandParts p i).isSome = (i.format == .h2d)) ∧
  (replyKindOf i).isSome = (i.format == .d2h) ∧
  ∀ (p : Params) (c : Command) (bs : List Byte), commandParts p i = some (c, bs) → bs.length = c.payloadLen

theorem toFloat (a : Word) : Statement (.toFloat a) :=
  ⟨rfl, fun _ => rfl, rfl, fun _ _ _ h => by cases h⟩

theorem fromFloat (a : Word) : Statement (.fromFloat a) :=
  ⟨rfl, fun _ => rfl, rfl, fun _ _ _ h => by cases h⟩

theorem mul (a b : Word) : Statement (.mul a b) :=
  ⟨rfl, fun _ => rfl, rfl, fun _ _ _ h => by cases h⟩

theorem square (a : Word) : Statement (.square a) :=
  ⟨rfl, fun _ => rfl, rfl, fun _ _ _ h => by cases h⟩

theorem sqrt (a : Word) : Statement (.sqrt a) :=
  ⟨rfl, fun _ => rfl, rfl, fun _ _ _ h => by cases h⟩

theorem qcopy (a : Quat) : Statement (.qcopy a) :=
  ⟨rfl, fun _ => rfl, rfl, fun _ _ _ h => by cases h⟩

theorem qinv (a : Quat) : Statement (.qinv a) :=
  ⟨rfl, fun _ => rfl, rfl, fun _ _ _ h => by cases h⟩

theorem qmul (l r : Quat) : Statement (.qmul l r) :=
  ⟨rfl, fun _ => rfl, rfl, fun _ _ _ h => by cases h⟩

theorem qlmul (l r : Quat) : Statement (.qlmul l r) :=
  ⟨rfl, fun _ => rfl, rfl, fun _ _ _ h => by cases h⟩

theorem qrmul (l r : Quat) : Statement (.qrmul l r) :=
  ⟨rfl, fun _ => rfl, rfl, fun _ _ _ h => by cases h⟩

theorem qremap (q : Quat) (ax : Axis) : Statement (.qremap q ax) :=
  ⟨rfl, fun _ => rfl, rfl, fun _ _ _ h => by cases h⟩

theorem qpipe (chip raw unity : Quat) (ax : Axis) : Statement (.qpipe chip raw unity ax) :=
  ⟨rfl, fun _ => rfl, rfl, fun _ _ _ h => by cases h⟩

theorem ping : Statement .ping :=
  ⟨rfl, fun _ => rfl, rfl, fun _ _ _ h => by cases h; rfl⟩

theorem readQuat : Statement .readQuat :=
  ⟨rfl, fun _ => rfl, rfl, fun _ _ _ h => by cases h; rfl⟩

theorem setChipOffset : Statement .setChipOffset :=
  ⟨rfl, fun _ => rfl, rfl, fun _ _ _ h => by cases h; rfl⟩

theorem setUnityOffset (q : Quat) : Statement (.setUnityOffset q) :=
  ⟨rfl, fun _ => rfl, rfl, fun p _ _ h => by cases h; exact quatBytes_length p.wordOrder q⟩

theorem setAxis (a : Byte) : Statement (.setAxis a) :=
  ⟨rfl, fun _ => rfl, rfl, fun _ _ _ h => by cases h; rfl⟩

theorem setId (n : Byte) : Statement (.setId n) :=
  ⟨rfl, fun _ => rfl, rfl, fun _ _ _ h => by cases h; rfl⟩

theorem flash : Statement .flash :=
  ⟨rfl, fun _ => rfl, rfl, fun _ _ _ h => by cases h; rfl⟩

theorem program (n : Byte) : Statement (.program n) :=
  ⟨rfl, fun _ => rfl, rfl, fun _ _ _ h => by cases h; rfl⟩

theorem readCompassAcc : Statement .readCompassAcc :=
  ⟨rfl, fun _ => rfl, rfl, fun _ _ _ h => by cases h; rfl⟩

theorem replyAck : Statement .replyAck :=
  ⟨rfl, fun _ => rfl, rfl, fun _ _ _ h => by cases h⟩

theorem replyQuat : Statement .replyQuat :=
  ⟨rfl, fun _ => rfl, rfl, fun _ _ _ h => by cases h⟩

theorem replyCompassAcc : Statement .replyCompassAcc :=
  ⟨rfl, fun _ => rfl, rfl, fun _ _ _ h => by cases h⟩

end Sys2Proof.Laws.OneEncoder
end

