-- ==== Sys2Proof/Laws/Step.lean ====
section
/-! SUPPORT. One lemma for each rule of the sequencer, the codec and the ports that says all it can do: the cases in
which it gives a next state, and which one. Proofs about a step cite these and unfold none of the rules. -/

namespace Sys2Proof.Machine

open Sys2Proof

/-! ## The meanings, each as one shared operation -/

theorem exec_ping (s : State) : exec .ping s = ack .replyAck s := rfl

theorem exec_readQuat (s : State) : exec .readQuat s = sendQuat s := rfl

theorem exec_setChipOffset (s : State) :
    exec .setChipOffset s = ack .replyAck { s with qChip := qinvQ s.qRaw } := rfl

theorem exec_setUnityOffset (q : Quat) (s : State) :
    exec (.setUnityOffset q) s = ack .replyAck { s with qUnity := q } := rfl

theorem exec_setAxis (a : Byte) (s : State) :
    exec (.setAxis a) s = ack .replyAck { s with axis := axisOfByte a } := rfl

theorem exec_setId (n : Byte) (s : State) : exec (.setId n) s = ack .replyAck { s with devId := n } := rfl

theorem exec_flash (s : State) : exec .flash s = ack .replyAck (storWrite (currentRecord s) s) := rfl

theorem exec_readCompassAcc (s : State) :
    exec .readCompassAcc s = andThen (sendCompassAcc s) fun t => .next { t with compassAcc := 0#2 } := rfl

/-! ## The sequencer -/

/-- A byte recognised as a command is that command's opcode byte (R88, R198). -/
theorem commandOf_eq_some {p : Params} {b : Byte} {k : Command} (h : commandOf p b = some k) : b = commandByte p k := by
  unfold commandOf at h
  repeat' split at h
  all_goals first | (cases h; assumption) | cases h

/-- The header hunt never enters the firmware detour (R191, R230). -/
theorem headerState_ne_downloading (p : Params) (b : Byte) : headerState p b ≠ .downloadingFirmware := by
  unfold headerState
  split <;> decide

/-- All that a header hunt can do (R191). -/
theorem header_eq_next {b : Byte} {s t : State} :
    header b s = .next t ↔
      (s.txActive = false ∧ s.rxArmed = false) ∧ s.dir = .rx ∧ 1 ≤ s.params.rxBufSize ∧
        t = armed 1 (setProto (headerState s.params b) s) := by
  simp [header, arm_eq_next]

/-- The address filter: the handshake, the own identity or the header hunt (R196). -/
theorem addressFilter_cases {b : Byte} {s t : State} (h : addressFilter b s = .next t) :
    (b = s.params.broadcastId ∧ s.fwDone = false ∧ t = setProto .downloadingFirmware s) ∨
    (b = s.devId ∧ arm 1 (setProto .waitCommand s) = .next t) ∨
    arm 1 (setProto (headerState s.params b) s) = .next t := by
  unfold addressFilter at h
  split at h
  · rename_i hb
    exact .inl ⟨hb.1, hb.2, (Host.Outcome.next.inj h).symm⟩
  · split at h
    · exact .inr (.inl ⟨‹_›, h⟩)
    · exact .inr (.inr h)

/-- The dispatch of an opcode byte: a command without payload is executed, any other byte arms a receive (R198, R218). -/
theorem dispatch_cases {c : Byte} {s t : State} (h : dispatch c s = .next t) :
    (∃ k : Command, commandOf s.params c = some k ∧ k.payloadLen = 0 ∧ ∃ i : Instr,
      decodePayload s.params k [] = .ok i ∧ exec i s = .next t) ∨
    (∃ k : Command, commandOf s.params c = some k ∧ k.payloadLen ≠ 0 ∧
      arm k.payloadLen (setProto (commandState k) s) = .next t) ∨
    commandOf s.params c = none ∧ arm 1 (setProto .waitHeader s) = .next t := by
  unfold dispatch at h
  split at h <;> rename_i hk
  case h_10 => exact .inr (.inr ⟨hk, h⟩)
  case h_4 => exact .inr (.inl ⟨_, hk, by decide, h⟩)
  case h_5 => exact .inr (.inl ⟨_, hk, by decide, h⟩)
  case h_6 => exact .inr (.inl ⟨_, hk, by decide, h⟩)
  case h_8 => exact .inr (.inl ⟨_, hk, by decide, h⟩)
  all_goals exact .inl ⟨_, hk, rfl, _, rfl, h⟩

/-- A completed SET_UNITY_OFFSET executes it on the four words of the payload (R205). -/
theorem unityPayload_cases {s t : State} (h : unityPayload s = .next t) :
    ∃ q : Quat, quatOfBytes s.params.wordOrder (s.rxBuf.take 16) = some q ∧ exec (.setUnityOffset q) s = .next t := by
  obtain ⟨-, h⟩ := withRxBytes_eq_next.1 h
  split at h
  · exact ⟨_, ‹_›, h⟩
  · cases h

/-- A received page is stored and acknowledged (R219). -/
theorem pageReceived_eq_next {s t : State} :
    pageReceived s = .next t ↔
      64 ≤ s.rxBuf.length ∧ ack .flashing (storProgram s.pageIdx (s.rxBuf.take 64) s) = .next t :=
  withRxBytes_eq_next

/-- All that the entry on receive-complete can do, state by state (R192). -/
theorem rxdone_cases {s t : State} (h : rxdone s = .next t) :
    (s.proto = .waitHeader ∧ ∃ b bs, s.rxBuf = b :: bs ∧ header b s = .next t) ∨
    (s.proto = .waitId ∧ ∃ b bs, s.rxBuf = b :: bs ∧ addressFilter b s = .next t) ∨
    (s.proto = .waitCommand ∧ ∃ b bs, s.rxBuf = b :: bs ∧ dispatch b s = .next t) ∨
    (s.proto = .waitUnityOffset ∧ unityPayload s = .next t) ∨
    (s.proto = .waitAxis ∧ ∃ b bs, s.rxBuf = b :: bs ∧ exec (.setAxis b) s = .next t) ∨
    (s.proto = .waitNewId ∧ ∃ b bs, s.rxBuf = b :: bs ∧ exec (.setId b) s = .next t) ∨
    (s.proto = .waitNumPages ∧ ∃ b bs, s.rxBuf = b :: bs ∧ exec (.program b) s = .next t) ∨
    (s.proto = .flashing ∧ pageReceived s = .next t) := by
  unfold rxdone at h
  split at h <;> rename_i hp <;> try simp only [withRxByte_eq_next, reduceCtorEq] at h
  all_goals simp only [hp, reduceCtorEq, true_and, false_and, false_or, or_false, h]

/-- What follows a page acknowledgement: the reboot, or the next page (R220). -/
theorem pageAcknowledged_cases {s t : State} (h : pageAcknowledged s = .next t) :
    (s.pageIdx + 1#8 = s.pages ∧ t = reboot { s with pageIdx := s.pageIdx + 1#8 }) ∨
    (s.pageIdx + 1#8 ≠ s.pages ∧ arm 64 { s with pageIdx := s.pageIdx + 1#8 } = .next t) := by
  unfold pageAcknowledged at h
  dsimp only at h
  split at h
  · exact .inl ⟨‹_›, (Host.Outcome.next.inj h).symm⟩
  · exact .inr ⟨‹_›, h⟩

/-- What follows a completed send (R193). -/
theorem txdone_cases {s t : State} (h : txdone s = .next t) :
    (s.proto = .flashing ∧ pageAcknowledged s = .next t) ∨
    (s.proto ≠ .flashing ∧ arm 1 (setProto .waitHeader s) = .next t) := by
  unfold txdone at h
  split at h
  · exact .inl ⟨‹_›, h⟩
  · exact .inr ⟨‹_›, h⟩

/-- What PROGRAM can do (R213, R214). -/
theorem execProgram_cases {n : Byte} {s t : State} (h : exec (.program n) s = .next t) :
    (n = 0#8 ∧ t = reboot { s with pages := n, pageIdx := 0#8 }) ∨
    (n ≠ 0#8 ∧ arm 64 (setProto .flashing { s with pages := n, pageIdx := 0#8 }) = .next t) := by
  change execProgram n s = .next t at h
  unfold execProgram at h
  dsimp only at h
  split at h
  · exact .inl ⟨‹_›, (Host.Outcome.next.inj h).symm⟩
  · exact .inr ⟨‹_›, h⟩

/-! ## The codec -/

/-- The receiver takes bytes, spelt out (R172). -/
theorem listening_eq_true {s : State} : listening s = true ↔ s.dir = .rx ∧ s.rxArmed = true := by
  simp [listening]

/-- All that a received byte can do: lost, a pad, stored, or stored as the last of its receive (R172 to R174). -/
theorem rxByteEvent_cases {b : Byte} {s t : State} (h : rxByteEvent b s = .next t) :
    (¬(s.dir = .rx ∧ s.rxArmed = true) ∧ t = s) ∨
    ((s.dir = .rx ∧ s.rxArmed = true) ∧ s.rxEsc = true ∧ t = { s with rxEsc := false }) ∨
    ((s.dir = .rx ∧ s.rxArmed = true) ∧ s.rxEsc = false ∧ s.rxCnt.toNat < s.rxBuf.length ∧
      (s.rxCnt + 1#7 ≠ s.rxLen ∧ t = stored b s ∨
        s.rxCnt + 1#7 = s.rxLen ∧ rxdone (completed b s) = .next t)) := by
  unfold rxByteEvent at h
  split at h
  · rename_i hl
    rw [listening_eq_true] at hl
    split at h
    · rename_i he
      exact .inr (.inl ⟨hl, he, (Host.Outcome.next.inj h).symm⟩)
    · rename_i he
      simp only [Bool.not_eq_true] at he
      unfold dataByte at h
      split at h
      · rename_i hc
        refine .inr (.inr ⟨hl, he, hc, ?_⟩)
        split at h
        · exact .inr ⟨‹_›, h⟩
        · exact .inl ⟨‹_›, (Host.Outcome.next.inj h).symm⟩
      · cases h
  · rename_i hl
    rw [listening_eq_true] at hl
    exact .inl ⟨hl, (Host.Outcome.next.inj h).symm⟩

/-- All that `TX_READY` can do: nothing, a pad, or the next byte (R167). -/
theorem txReadyEvent_cases {s t : State} (h : txReadyEvent s = .next t) :
    ((s.txActive = false ∨ s.txDrain = true) ∧ t = s) ∨
    (s.txActive = true ∧ s.txDrain = false ∧ s.txPad = true ∧ t = padSent s) ∨
    (s.txActive = true ∧ s.txDrain = false ∧ s.txPad = false ∧ ∃ b, s.txBuf[s.txCnt.toNat]? = some b ∧
      t = byteSent b s) := by
  unfold txReadyEvent at h
  split at h
  · rename_i hp
    simp only [txPending, Bool.and_eq_true, Bool.not_eq_true'] at hp
    split at h
    · exact .inr (.inl ⟨hp.1, hp.2, ‹_›, (Host.Outcome.next.inj h).symm⟩)
    · rename_i hpad
      split at h
      · exact .inr (.inr ⟨hp.1, hp.2, by simpa using hpad, _, ‹_›, (Host.Outcome.next.inj h).symm⟩)
      · cases h
  · rename_i hp
    simp only [txPending, Bool.and_eq_true, Bool.not_eq_true', not_and, Bool.not_eq_false] at hp
    refine .inl ⟨?_, (Host.Outcome.next.inj h).symm⟩
    cases ha : s.txActive
    · exact .inl rfl
    · exact .inr (hp ha)

/-- All that `TX_IDLE` can do (R169). -/
theorem txIdleEvent_cases {s t : State} (h : txIdleEvent s = .next t) :
    (s.txDrain = false ∧ t = s) ∨ (s.txDrain = true ∧ txdone (turnedAround s) = .next t) := by
  unfold txIdleEvent at h
  split at h
  · exact .inr ⟨‹_›, h⟩
  · rename_i hd
    exact .inl ⟨by simpa using hd, (Host.Outcome.next.inj h).symm⟩

/-- All that `FW_DONE` can do (R227). -/
theorem fwDoneEvent_cases {s t : State} (h : fwDoneEvent s = .next t) :
    (s.proto ≠ .downloadingFirmware ∧ t = s) ∨
    (s.proto = .downloadingFirmware ∧ arm 1 (firmwareDone s) = .next t) := by
  unfold fwDoneEvent at h
  split at h
  · exact .inr ⟨‹_›, h⟩
  · exact .inl ⟨‹_›, (Host.Outcome.next.inj h).symm⟩

/-! ## The ports -/

/-- The operation of a request is a compute operation, and its code is not reserved (R97, R98). -/
theorem decodeCreq_format {r : Creq} {i : Instr} (h : decodeCreq r = .ok i) : i.format = .creq := by
  unfold decodeCreq at h
  split at h <;> first | (cases h; rfl) | cases h

/-- A compute operation changes the result log and nothing else (R22, R96). -/
theorem exec_creq {i : Instr} (h : i.format = .creq) (s : State) : ∃ r : Quat, exec i s = .next (cpReturned r s) := by
  cases i <;> first | exact ⟨_, rfl⟩ | cases h

/-- All that a compute request can do (R96 to R98). -/
theorem cpEvent_cases {r : Creq} {s t : State} (h : cpEvent r s = .next t) : ∃ q : Quat, t = cpReturned q s := by
  unfold cpEvent at h
  split at h
  · rename_i i hi
    obtain ⟨q, hq⟩ := exec_creq (decodeCreq_format hi) s
    exact ⟨q, (Host.Outcome.next.inj (hq.symm.trans h)).symm⟩
  · cases h

/-- All that a step can do: nothing, or one port transaction (R250, R262). -/
theorem step_cases {s t : State} (h : step s = .next t) :
    (s.events = [] ∧ t = s) ∨ ∃ e rest, s.events = e :: rest ∧ handle e { s with events := rest } = .next t := by
  unfold step at h
  split at h
  · exact .inl ⟨‹_›, (Host.Outcome.next.inj h).symm⟩
  · exact .inr ⟨_, _, ‹_›, h⟩

end Sys2Proof.Machine
end

