-- ==== Sys2Proof/Tests/Slice0.lean ====
section
/-! SUPPORT. The author's own tests. Expected values are those of spec/95_test_vectors.md (the label of the vector stands in
the comment) or written out by hand from the encodings of spec/30_encoding.md. After them, for each obligation with
hypotheses, a concrete state and operands that meet them. -/

namespace Sys2Proof.Tests

open Sys2Proof Sys2Proof.Machine

/-! ## Helpers -/

/-- The reset state with no receive armed: the state `rxdone` starts from. -/
def quiet : State := { State.reset with rxArmed := false }

/-- A field of the next state; none where there is none. -/
def field {α : Type} (f : State → α) : Result → Option α
  | .next s => some (f s)
  | .fault _ => none
  | .refused _ => none

/-- The results on the CP port after one step with a request. -/
def compute (r : Creq) : Option (List Quat) := field State.cpOut (step (withNextEvent (.cp r) State.reset))

/-- One step with the byte `b`, the bytes `bs` of the same receive being in the buffer. -/
def command (st : ProtoState) (bs : List Byte) (b : Byte) (s : State) : Result :=
  step (withNextEvent (.rxByte b) (awaiting st bs s))

/-- The frame in the send buffer. -/
def frame (s : State) : List Byte := s.txBuf.take s.txLen.toNat

/-! ## WellFormed: each check refuses an ill-formed term and takes a well-formed one -/

theorem test_sqrt_contract_refuses_negative : (Instr.sqrt 0x80000000#32).wellFormed = false := by decide
theorem test_sqrt_contract_takes_zero : (Instr.sqrt 0#32).wellFormed = true := by decide
theorem test_fromFloat_domain_refuses_two : (Instr.fromFloat 0x40000000#32).wellFormed = false := by decide
theorem test_fromFloat_domain_takes_minus_two : (Instr.fromFloat 0xC0000000#32).wellFormed = true := by decide
theorem test_axis_indices_refuse_three :
    (Instr.qremap identityQuat ⟨false, 0#2, false, 1#2, false, 3#2⟩).wellFormed = false := by decide
theorem test_axis_indices_refuse_three_in_qpipe :
    (Instr.qpipe identityQuat identityQuat identityQuat ⟨false, 3#2, false, 1#2, false, 2#2⟩).wellFormed = false := by
  decide
theorem test_axis_byte_refuses_equal_indices : (Instr.setAxis 0x1A#8).wellFormed = false := by decide
theorem test_axis_byte_refuses_unused_bit : (Instr.setAxis 0x90#8).wellFormed = false := by decide
theorem test_axis_byte_takes_factory_mapping : (Instr.setAxis 0x10#8).wellFormed = true := by decide

/-! ## Decoding: every constructor, from fields written out from R96 and R97 or bytes from R81, R86, R88 -/

theorem test_decode_toFloat :
    decodeCreq ⟨0b0000#4, 0x00000000000000000000000040000000#128, 0#128, 0#128, 0#9⟩ = .ok (.toFloat 0x40000000#32) := by
  decide
theorem test_decode_fromFloat :
    decodeCreq ⟨0b0001#4, 0x0000000000000000000000003F800000#128, 0#128, 0#128, 0#9⟩ = .ok (.fromFloat 0x3F800000#32) := by
  decide
theorem test_decode_mul :
    decodeCreq ⟨0b0010#4, 0x12345678#128, 0xF5432110#128, 0#128, 0#9⟩ = .ok (.mul 0x12345678#32 0xF5432110#32) := by
  decide
theorem test_decode_square : decodeCreq ⟨0b0011#4, 0x2D413CCD#128, 0#128, 0#128, 0#9⟩ = .ok (.square 0x2D413CCD#32) := by
  decide
theorem test_decode_sqrt : decodeCreq ⟨0b0100#4, 0x10000000#128, 0#128, 0#128, 0#9⟩ = .ok (.sqrt 0x10000000#32) := by decide
theorem test_decode_qcopy :
    decodeCreq ⟨0b1000#4, 0x44444444333333332222222211111111#128, 0#128, 0#128, 0#9⟩ =
      .ok (.qcopy ⟨0x11111111#32, 0x22222222#32, 0x33333333#32, 0x44444444#32⟩) := by decide
theorem test_decode_qinv :
    decodeCreq ⟨0b1001#4, 0x44444444333333332222222211111111#128, 0#128, 0#128, 0#9⟩ =
      .ok (.qinv ⟨0x11111111#32, 0x22222222#32, 0x33333333#32, 0x44444444#32⟩) := by decide
theorem test_decode_qmul :
    decodeCreq ⟨0b1010#4, 0x00000004000000030000000200000001#128, 0x00000008000000070000000600000005#128, 0#128, 0#9⟩ =
      .ok (.qmul ⟨1#32, 2#32, 3#32, 4#32⟩ ⟨5#32, 6#32, 7#32, 8#32⟩) := by decide
theorem test_decode_qlmul :
    decodeCreq ⟨0b1011#4, 0x00000004000000030000000200000001#128, 0x00000008000000070000000600000005#128, 0#128, 0#9⟩ =
      .ok (.qlmul ⟨1#32, 2#32, 3#32, 4#32⟩ ⟨5#32, 6#32, 7#32, 8#32⟩) := by decide
theorem test_decode_qrmul :
    decodeCreq ⟨0b1100#4, 0x00000004000000030000000200000001#128, 0x00000008000000070000000600000005#128, 0#128, 0#9⟩ =
      .ok (.qrmul ⟨1#32, 2#32, 3#32, 4#32⟩ ⟨5#32, 6#32, 7#32, 8#32⟩) := by decide
theorem test_decode_qremap :
    decodeCreq ⟨0b1101#4, 0x00000004000000030000000200000001#128, 0#128, 0#128, 0b01_1_00_0_10_1#9⟩ =
      .ok (.qremap ⟨1#32, 2#32, 3#32, 4#32⟩ ⟨true, 2#2, false, 0#2, true, 1#2⟩) := by decide
theorem test_decode_qpipe :
    decodeCreq ⟨0b1110#4, 0x00000004000000030000000200000001#128, 0x00000008000000070000000600000005#128,
        0x0000000C0000000B0000000A00000009#128, 0b10_0_01_0_00_0#9⟩ =
      .ok (.qpipe ⟨1#32, 2#32, 3#32, 4#32⟩ ⟨5#32, 6#32, 7#32, 8#32⟩ ⟨9#32, 10#32, 11#32, 12#32⟩ factoryAxis) := by decide
theorem test_decode_reserved_op : decodeCreq ⟨0b1111#4, 0#128, 0#128, 0#128, 0#9⟩ = .rejected (.reservedOp 0xF#4) := by
  decide

theorem test_decode_ping : decodeH2D defaultParams [0xFF#8, 0x01#8, 0x00#8] = .ok (0x01#8, .ping) := by decide
theorem test_decode_readQuat : decodeH2D defaultParams [0xFF#8, 0x01#8, 0x02#8] = .ok (0x01#8, .readQuat) := by decide
theorem test_decode_setChipOffset : decodeH2D defaultParams [0xFF#8, 0x01#8, 0x04#8] = .ok (0x01#8, .setChipOffset) := by
  decide
/-- The logical frame of scenario C. -/
theorem test_decode_setUnityOffset :
    decodeH2D defaultParams [0xFF#8, 0x01#8, 0x05#8, 0x00#8, 0x00#8, 0x00#8, 0x40#8, 0xFF#8, 0x00#8, 0x00#8, 0x00#8,
        0x00#8, 0x00#8, 0x00#8, 0xFF#8, 0x00#8, 0x00#8, 0xFF#8, 0x00#8] =
      .ok (0x01#8, .setUnityOffset ⟨0x40000000#32, 0x000000FF#32, 0xFF000000#32, 0x00FF0000#32⟩) := by decide
theorem test_decode_setAxis : decodeH2D defaultParams [0xFF#8, 0x01#8, 0x06#8, 0x55#8] = .ok (0x01#8, .setAxis 0x55#8) := by
  decide
theorem test_decode_setId : decodeH2D defaultParams [0xFF#8, 0x01#8, 0x07#8, 0x05#8] = .ok (0x01#8, .setId 0x05#8) := by
  decide
theorem test_decode_flash : decodeH2D defaultParams [0xFF#8, 0x05#8, 0x08#8] = .ok (0x05#8, .flash) := by decide
theorem test_decode_program : decodeH2D defaultParams [0xFF#8, 0x01#8, 0x09#8, 0x02#8] = .ok (0x01#8, .program 0x02#8) := by
  decide
theorem test_decode_readCompassAcc :
    decodeH2D defaultParams [0xFF#8, 0x01#8, 0x0A#8] = .ok (0x01#8, .readCompassAcc) := by decide
theorem test_decode_unknown_command :
    decodeH2D defaultParams [0xFF#8, 0x01#8, 0x01#8] = .rejected (.unknownCommand 0x01#8) := by decide
theorem test_decode_missing_payload : decodeH2D defaultParams [0xFF#8, 0x01#8, 0x06#8] = .rejected (.payloadLength 0) := by
  decide

theorem test_decode_replyAck : decodeD2H defaultParams [0xFF#8, 0x01#8, 0x01#8] = .ok (.replyAck, [0x01#8]) := by decide
theorem test_decode_replyQuat :
    decodeD2H defaultParams [0xFF#8, 0x03#8, 0x00#8, 0x00#8, 0x80#8, 0x3F#8, 0#8, 0#8, 0#8, 0#8, 0#8, 0#8, 0#8, 0#8, 0#8,
        0#8, 0#8, 0#8] =
      .ok (.replyQuat, [0x00#8, 0x00#8, 0x80#8, 0x3F#8, 0#8, 0#8, 0#8, 0#8, 0#8, 0#8, 0#8, 0#8, 0#8, 0#8, 0#8, 0#8]) := by
  decide
theorem test_decode_replyCompassAcc : decodeD2H defaultParams [0xFF#8, 0x0B#8, 0x03#8] = .ok (.replyCompassAcc, [0x03#8]) := by
  decide

/-- V-STUFF, row 8. -/
theorem test_stuff :
    stuff defaultParams [0x12#8, 0xFF#8, 0x00#8, 0xFF#8, 0xFF#8, 0x34#8] =
      [0x12#8, 0xFF#8, 0x00#8, 0x00#8, 0xFF#8, 0x00#8, 0xFF#8, 0x00#8, 0x34#8] := by decide

/-! ## Words of the opcode table -/

theorem test_table_word_of_a_request : decodeTableWord 4 0x2 = some (.mul 0#32 0#32) := by decide
theorem test_table_word_of_a_command : decodeTableWord 8 0x00 = some .ping := by decide
theorem test_table_word_with_payload : decodeTableWord 16 0x5506 = some (.setAxis 0x55#8) := by decide
theorem test_table_word_of_a_reply : decodeTableWord 8 0x0B = some .replyCompassAcc := by decide
theorem test_fetch_word_runs_the_command :
    field (fun s => (s.proto, frame s)) (step (State.reset.withFetchWord 8 0x00)) =
      some (.replyAck, [0xFF#8, 0x01#8, 0x01#8]) := by decide
theorem test_fetch_word_runs_the_payload_command :
    field State.axis (step (State.reset.withFetchWord 16 0x5506)) = some ⟨true, 2#2, false, 1#2, true, 0#2⟩ := by decide

/-! ## Compute operations -/

/-- V-TOFLOAT. -/
theorem test_toFloat_truncates_negative :
    compute ⟨0x0#4, 0xFE000001#128, 0#128, 0#128, 0#9⟩ = some [scalarQuat 0xBCFFFFFF#32] := by decide
theorem test_toFloat_of_minus_two :
    compute ⟨0x0#4, 0x80000000#128, 0#128, 0#128, 0#9⟩ = some [scalarQuat 0xC0000000#32] := by decide
/-- V-FROMFLOAT. -/
theorem test_fromFloat_shifts_right :
    compute ⟨0x1#4, 0x33FFFFFF#128, 0#128, 0#128, 0#9⟩ = some [scalarQuat 0x0000007F#32] := by decide
theorem test_fromFloat_of_minus_a_third :
    compute ⟨0x1#4, 0xBEAAAAAB#128, 0#128, 0#128, 0#9⟩ = some [scalarQuat 0xEAAAAAA0#32] := by decide
/-- V-MUL. -/
theorem test_mul_mixed_signs :
    compute ⟨0x2#4, 0x12345678#128, 0xF5432110#128, 0#128, 0#9⟩ = some [scalarQuat 0xFCF21954#32] := by decide
theorem test_mul_wraps :
    compute ⟨0x2#4, 0x60000000#128, 0x60000000#128, 0#128, 0#9⟩ = some [scalarQuat 0x90000000#32] := by decide
/-- V-SQUARE. -/
theorem test_square_loses_two_lsb :
    compute ⟨0x3#4, 0x2D413CCD#128, 0#128, 0#128, 0#9⟩ = some [scalarQuat 0x1FFFFFFE#32] := by decide
theorem test_square_of_minus_one :
    compute ⟨0x3#4, 0xC0000000#128, 0#128, 0#128, 0#9⟩ = some [scalarQuat 0x40000000#32] := by decide
/-- V-SQRT. -/
theorem test_sqrt_odd_range :
    compute ⟨0x4#4, 0x00000005#128, 0#128, 0#128, 0#9⟩ = some [scalarQuat 0x00011E37#32] := by decide
theorem test_sqrt_even_range :
    compute ⟨0x4#4, 0x24000000#128, 0#128, 0#128, 0#9⟩ = some [scalarQuat 0x2FFFE8E9#32] := by decide
/-- V-QCOPY. -/
theorem test_qcopy :
    compute ⟨0x8#4, 0xFFFFFFFF000000017FFFFFFF80000000#128, 0#128, 0#128, 0#9⟩ =
      some [⟨0x80000000#32, 0x7FFFFFFF#32, 0x00000001#32, 0xFFFFFFFF#32⟩] := by decide
/-- V-QINV. -/
theorem test_qinv_of_the_most_negative :
    compute ⟨0x9#4, 0x00000000000000018000000080000000#128, 0#128, 0#128, 0#9⟩ =
      some [⟨0x80000000#32, 0x80000000#32, 0xFFFFFFFF#32, 0#32⟩] := by decide
/-- V-QMUL. -/
theorem test_qmul_general :
    compute ⟨0xA#4, 0xF000000108000000F0000000376CEE6A#128, 0x2D413CCD2D413CCD#128, 0#128, 0#9⟩ =
      some [⟨0x3281661E#32, 0x1BE0C7B6#32, 0xFA57D865#32, 0xEF078933#32⟩] := by decide
theorem test_qmul_j_times_i :
    compute ⟨0xA#4, 0x00000000400000000000000000000000#128, 0x00000000000000004000000000000000#128, 0#128, 0#9⟩ =
      some [⟨0#32, 0#32, 0#32, 0xC0000000#32⟩] := by decide
/-- V-QLMUL and V-QRMUL. -/
theorem test_qlmul_has_its_snapshot :
    compute ⟨0xB#4, 0x2D413CCD2D413CCD#128, 0x20000000200000002000000020000000#128, 0#128, 0#9⟩ =
      some [⟨0#32, 0x2D413CCC#32, 0#32, 0x2D413CCC#32⟩] := by decide
theorem test_qrmul_has_its_snapshot :
    compute ⟨0xC#4, 0x2D413CCD2D413CCD#128, 0x20000000200000002000000020000000#128, 0#128, 0#9⟩ =
      some [⟨0#32, 0x2D413CCC#32, 0#32, 0x2D413CCC#32⟩] := by decide
/-- V-QREMAP. -/
theorem test_qremap_signs_and_permutation :
    compute ⟨0xD#4, 0x44444444333333332222222211111111#128, 0#128, 0#128, 0x0C5#9⟩ =
      some [⟨0x11111111#32, 0xBBBBBBBC#32, 0x22222222#32, 0xCCCCCCCD#32⟩] := by decide
theorem test_qremap_index_three :
    compute ⟨0xD#4, 0x44444444333333332222222211111111#128, 0#128, 0#128, 0x1AC#9⟩ =
      some [⟨0x11111111#32, 0x44444444#32, 0xBBBBBBBC#32, 0#32⟩] := by decide
/-- V-QPIPE. -/
theorem test_qpipe_general :
    compute ⟨0xE#4, 0x00000000D2BEC333000000002D413CCD#128, 0xF000000108000000F0000000376CEE6A#128,
        0x2D413CCD2D413CCD#128, 0x0C5#9⟩ =
      some [⟨0x0FB67734#32, 0x2FB67732#32, 0x17B67731#32, 0x17B67737#32⟩] := by decide
theorem test_reserved_request_is_refused :
    step (withNextEvent (.cp ⟨0x5#4, 0#128, 0#128, 0#128, 0#9⟩) State.reset) = .refused (.reservedOp 0x5#4) := rfl

/-! ## Commands and replies (V-PROTO) -/

theorem test_ping : field frame (command .waitCommand [] 0x00#8 State.reset) = some [0xFF#8, 0x01#8, 0x01#8] := by decide
theorem test_readQuat :
    field frame (command .waitCommand [] 0x02#8
        { State.reset with qOut := ⟨0x3FFFFFFF#32, 0xFFFFFFFF#32, 0#32, 0xE0000040#32⟩ }) =
      some [0xFF#8, 0x03#8, 0xFF#8, 0xFF#8, 0x7F#8, 0x3F#8, 0x00#8, 0x00#8, 0x80#8, 0xB0#8, 0#8, 0#8, 0#8, 0#8, 0xFE#8,
        0xFF#8, 0xFF#8, 0xBE#8] := by decide
theorem test_setChipOffset :
    field State.qChip (command .waitCommand [] 0x04#8
        { State.reset with qRaw := ⟨0x2D413CCD#32, 0#32, 0x2D413CCD#32, 0#32⟩ }) =
      some ⟨0x2D413CCD#32, 0#32, 0xD2BEC333#32, 0#32⟩ := by decide
/-- The payload of scenario C. -/
theorem test_setUnityOffset :
    field State.qUnity (command .waitUnityOffset [0x00#8, 0x00#8, 0x00#8, 0x40#8, 0xFF#8, 0x00#8, 0x00#8, 0x00#8, 0x00#8,
        0x00#8, 0x00#8, 0xFF#8, 0x00#8, 0x00#8, 0xFF#8] 0x00#8 State.reset) =
      some ⟨0x40000000#32, 0x000000FF#32, 0xFF000000#32, 0x00FF0000#32⟩ := by decide
/-- Scenario D, the byte of the pattern and that of the prose. -/
theorem test_setAxis_equal_indices :
    field State.axis (command .waitAxis [] 0x1A#8 State.reset) = some ⟨false, 1#2, true, 1#2, false, 1#2⟩ := by decide
theorem test_setAxis_wraps_the_z_index :
    field State.axis (command .waitAxis [] 0x2C#8 State.reset) = some ⟨false, 2#2, true, 2#2, false, 3#2⟩ := by decide
theorem test_setId :
    field (fun s => (s.devId, frame s)) (command .waitNewId [] 0x05#8 State.reset) =
      some (0x05#8, [0xFF#8, 0x01#8, 0x01#8]) := by decide
/-- Program P5, step 4. -/
theorem test_flash :
    field State.record (command .waitCommand [] 0x08#8
        { State.reset with devId := 0x05#8, axis := ⟨true, 2#2, false, 1#2, true, 0#2⟩ }) =
      some ⟨0x05#8, 0x01#8, 0x02#8, 0x00#8, 0x01#8, 0x01#8, 0x00#8⟩ := by decide
theorem test_flash_may_fail_silently :
    field (fun s => (s.record, frame s)) (command .waitCommand [] 0x08#8
        { State.reset with devId := 0x05#8, storResults := [false] }) =
      some (State.reset.record, [0xFF#8, 0x01#8, 0x01#8]) := by decide
/-- Program P7, steps 1 and 5. -/
theorem test_program_starts_the_page_loop :
    field (fun s => (s.proto, s.pages, s.rxArmed, s.rxLen)) (command .waitNumPages [] 0x02#8 State.reset) =
      some (.flashing, 0x02#8, true, 64#7) := by decide
theorem test_program_of_no_page_reboots :
    field (fun s => (s.proto, s.rebootReqs, s.txActive)) (command .waitNumPages [] 0x00#8 State.reset) =
      some (.waitHeader, 1, false) := by decide
theorem test_readCompassAcc :
    field (fun s => (s.compassAcc, frame s)) (command .waitCommand [] 0x0A#8 { State.reset with compassAcc := 3#2 }) =
      some (0#2, [0xFF#8, 0x0B#8, 0x03#8]) := by decide
theorem test_replyAck :
    field (fun s => (s.dir, frame s)) (exec .replyAck quiet) = some (.tx, [0xFF#8, 0x01#8, 0x01#8]) := by decide
theorem test_replyQuat :
    field frame (exec .replyQuat quiet) =
      some ([0xFF#8, 0x03#8, 0x00#8, 0x00#8, 0x80#8, 0x3F#8] ++ List.replicate 12 0#8) := by decide
theorem test_replyCompassAcc :
    field frame (exec .replyCompassAcc { quiet with compassAcc := 2#2 }) = some [0xFF#8, 0x0B#8, 0x02#8] := by decide

/-! ## Events -/

/-- Program P3, steps 1, 2 and 5. -/
theorem test_header_byte :
    field (fun s => (s.proto, s.rxEsc, s.rxArmed)) (step (withNextEvent (.rxByte 0xFF#8) State.reset)) =
      some (.waitId, true, true) := by decide
theorem test_pad_is_discarded :
    field (fun s => (s.proto, s.rxEsc, s.rxCnt))
        (step (withNextEvent (.rxByte 0x00#8) { State.reset with proto := .waitId, rxEsc := true })) =
      some (.waitId, false, 0#7) := by decide
theorem test_tx_ready_emits_the_sentinel :
    field (fun s => (s.wireOut, s.txCnt, s.txPad)) (step (withNextEvent .txReady (replyStarted
        [0xFF#8, 0x01#8, 0x01#8] .replyAck quiet))) = some ([0xFF#8], 1#5, true) := by decide
/-- Program P8, steps 1 and 2. -/
theorem test_compass_keeps_the_maximum :
    field State.compassAcc (step (withNextEvent (.compass 2) { State.reset with compassAcc := 3#2 })) = some 3#2 := by
  decide
theorem test_handshake :
    field (fun s => (s.proto, s.fwStart, s.rxArmed)) (command .waitId [] 0x00#8 State.reset) =
      some (.downloadingFirmware, true, false) := by decide

/-! ## Witnesses: for each obligation with hypotheses, a state and operands that meet them, one for each clause and at the
boundaries of a range -/

/-- `quiet` with a protocol state and a first byte in the buffer. -/
def quietIn (st : ProtoState) (b : Byte) : State := { quiet with proto := st, rxBuf := b :: List.replicate 63 0#8 }

/-- The reset state with one port transaction to come. -/
def expecting (e : Event) : State := withNextEvent e State.reset

/-- A node with the identity 5 that hunts for a header. -/
def node5 : State := { State.reset with devId := 0x05#8 }

theorem node5_inv : Inv node5 := by
  refine ⟨⟨?_, ?_, ?_, ?_, ?_, ?_, ?_, ?_⟩, ?_, ?_, ?_, ?_, ?_, ?_, ?_⟩ <;>
    simp [node5, State.reset, waitLength, isReplyState]
  all_goals decide

/-- A node whose page acknowledgement has left, with the line-idle to come. -/
def pageSent : State :=
  { expecting .txIdle with txActive := true, txDrain := true, dir := .tx, rxArmed := false, proto := .flashing }

/-- A node that awaits one byte in a protocol state, with that byte to come. -/
def hearing (st : ProtoState) (b : Byte) : State := { expecting (.rxByte b) with proto := st }

/-- The byte a node hears in a one-byte receive completes it. -/
theorem hearing_completesWith (st : ProtoState) (b : Byte) : completesWith b b (hearing st b) :=
  ⟨⟨rfl, rfl, rfl, by change 0 < 64; decide, rfl⟩, rfl, fun _ => rfl⟩

theorem quiet_replyReady : replyReady quiet := ⟨rfl, rfl, by decide⟩

theorem quiet_armReady : armReady quiet := ⟨rfl, rfl, rfl, by decide⟩

theorem witness_TofloatPacksNormalizedMagnitude :
    (0#32 = 0#32) ∧
    (0 ≤ 31 ∧ 2 ^ (31 - 0) ≤ (0x80000000#32).toInt.natAbs ∧ (0x80000000#32).toInt.natAbs < 2 ^ (32 - 0)) ∧
    (31 ≤ 31 ∧ 2 ^ (31 - 31) ≤ (0xFFFFFFFF#32).toInt.natAbs ∧ (0xFFFFFFFF#32).toInt.natAbs < 2 ^ (32 - 31)) := by decide

theorem witness_FloatRoundTripTruncatesTo24Bits :
    (8 ≤ 31 ∧ 2 ^ (31 - 8) ≤ (0x00FFFFFF#32).toInt.natAbs ∧ (0x00FFFFFF#32).toInt.natAbs < 2 ^ (32 - 8)) ∧
    (7 ≤ 31 ∧ 2 ^ (31 - 7) ≤ (0x01FFFFFF#32).toInt.natAbs ∧ (0x01FFFFFF#32).toInt.natAbs < 2 ^ (32 - 7)) := by decide

theorem witness_MulIsLessThanThreeLsbBelowTheProduct :
    (-(2 ^ 61) + 3 * 2 ^ 30 = (0x40000000#32).toInt * (0x80000003#32).toInt) ∧
    ((0x40000000#32).toInt * (0x7FFFFFFF#32).toInt < 2 ^ 61 ∧
      -(2 ^ 61) + 3 * 2 ^ 30 ≤ (0x40000000#32).toInt * (0x7FFFFFFF#32).toInt) := by decide

theorem witness_SqrtPassesThroughAndZeroes :
    0x40000000 ≤ (0x40000000#32).toInt ∧ (0#32).toInt ≤ 0 ∧ (0x80000000#32).toInt ≤ 0 := by decide

theorem witness_SqrtEvaluatesTheSelectedPolynomial :
    (2 ≤ 31 ∧ 2 ^ (31 - 2) ≤ (0x3FFFFFFF#32).toNat ∧ (0x3FFFFFFF#32).toNat < 2 ^ (32 - 2)) ∧
    (31 ≤ 31 ∧ 2 ^ (31 - 31) ≤ (1#32).toNat ∧ (1#32).toNat < 2 ^ (32 - 31)) := by decide

theorem witness_QpipeComposesInTheFixedOrder :
    (expecting (.sample identityQuat)).events = .sample identityQuat :: [] := rfl

theorem witness_PipelineIsTransparentUntilCalibrated :
    let s := expecting (.sample ⟨1#32, 2#32, 3#32, 4#32⟩)
    s.events = .sample ⟨1#32, 2#32, 3#32, 4#32⟩ :: [] ∧ s.qChip = identityQuat ∧ s.qUnity = identityQuat ∧
      s.axis = factoryAxis := by decide

theorem witness_ComputeOperationsTouchOnlyTheResult :
    (expecting (.cp ⟨0x5#4, 0#128, 0#128, 0#128, 0#9⟩)).events = .cp ⟨0x5#4, 0#128, 0#128, 0#128, 0#9⟩ :: [] ∧
    0x5#4 ∈ reservedOps ∧ 0xF#4 ∈ reservedOps ∧ 0xE#4 ∉ reservedOps ∧ 0x0#4 ∉ reservedOps := by decide

theorem witness_ComputeRequestsRoundTrip : (Instr.mul 1#32 2#32).format = .creq := rfl

theorem witness_CommandFramesRoundTrip :
    defaultParams.ok = true ∧ ({ defaultParams with wordOrder := .big }).ok = true ∧
      (Instr.setUnityOffset identityQuat).format = .h2d := by decide

theorem witness_EveryInstructionRoundTripsInItsFormat :
    defaultParams.ok = true ∧ replyKindOf .replyAck = some .ack ∧
      ([0x01#8] : List Byte).length = ReplyKind.ack.payloadLen := by decide

theorem witness_PingSendsOnlyTheAcknowledgement : replyReady quiet := quiet_replyReady

theorem witness_ReplyInstructionsStartTheirFrames : replyReady quiet := quiet_replyReady

theorem witness_ReadQuatSendsTheOutputAsFloats : replyReady quiet ∧ quiet.params.wordOrder = .little :=
  ⟨quiet_replyReady, rfl⟩

theorem witness_SetChipOffsetCapturesTheInverseSample : replyReady quiet := quiet_replyReady

theorem witness_SetUnityOffsetStoresThePayloadWords :
    let s := quietIn .waitUnityOffset 0x12#8
    replyReady s ∧ s.proto = .waitUnityOffset ∧ s.params.wordOrder = .little ∧
      s.rxBuf = 0x12#8 :: 0#8 :: 0#8 :: 0#8 :: 0#8 :: 0#8 :: 0#8 :: 0#8 :: 0#8 :: 0#8 :: 0#8 :: 0#8 :: 0#8 :: 0#8 :: 0#8 ::
        0#8 :: List.replicate 48 0#8 := ⟨⟨rfl, rfl, by decide⟩, rfl, rfl, rfl⟩

theorem witness_SetAxisUnpacksTheFieldsAndDerivesZ : replyReady quiet := quiet_replyReady

theorem witness_SetIdStoresAnyIdentity :
    let s := quietIn .waitNewId 0xFF#8
    replyReady s ∧ s.proto = .waitNewId ∧ s.rxBuf = 0xFF#8 :: List.replicate 63 0#8 := ⟨⟨rfl, rfl, by decide⟩, rfl, rfl⟩

theorem witness_FlashStoresIdentityAndAxis : replyReady quiet := quiet_replyReady

theorem witness_ProgramStartsThePageLoop : armReady quiet ∧ 0x01#8 ≠ 0#8 ∧ 0xFF#8 ≠ 0#8 :=
  ⟨quiet_armReady, by decide, by decide⟩

theorem witness_ReadCompassAccSendsAndClears : replyReady quiet := quiet_replyReady

theorem witness_NoInstructionWritesProgramMemory : ∃ t, exec .flash quiet = .next t := ⟨_, rfl⟩

theorem witness_HeaderHuntAdvancesOnTheSentinel :
    let s := quietIn .waitHeader 0xFF#8
    armReady s ∧ s.proto = .waitHeader ∧ s.rxBuf = 0xFF#8 :: List.replicate 63 0#8 := ⟨⟨rfl, rfl, rfl, by decide⟩, rfl, rfl⟩

/-- The three branches: the broadcast identity, the own identity (also where it is the broadcast identity and the
handshake is over), any other byte. -/
theorem witness_AddressFilterTakesThreeBranches :
    armReady (quietIn .waitId 0x00#8) ∧
    (0x00#8 = quiet.params.broadcastId ∧ quiet.fwDone = false) ∧
    (¬(0x01#8 = quiet.params.broadcastId ∧ quiet.fwDone = false) ∧ 0x01#8 = quiet.devId) ∧
    (¬(0xFF#8 = quiet.params.broadcastId ∧ quiet.fwDone = false) ∧ 0xFF#8 ≠ quiet.devId) ∧
    (let s := { quietIn .waitId 0x00#8 with fwDone := true, devId := 0x00#8 }
     ¬(0x00#8 = s.params.broadcastId ∧ s.fwDone = false) ∧ 0x00#8 = s.devId) :=
  ⟨⟨rfl, rfl, rfl, by decide⟩, by decide, by decide, by decide, by decide⟩

theorem witness_OpcodeByteIsDispatched :
    let s := quietIn .waitCommand 0x7E#8
    armReady s ∧ s.params.ok = true ∧ s.proto = .waitCommand ∧ s.rxBuf = 0x7E#8 :: List.replicate 63 0#8 ∧
      ∀ k : Command, 0x7E#8 ≠ commandByte s.params k :=
  ⟨⟨rfl, rfl, rfl, by decide⟩, by decide, rfl, rfl, fun k => by cases k <;> decide⟩

/-- Each of the nine opcode bytes. -/
theorem witness_OpcodeByteIsDispatched_commands (k : Command) :
    let s := quietIn .waitCommand (commandByte defaultParams k)
    armReady s ∧ s.params.ok = true ∧ s.proto = .waitCommand ∧
      s.rxBuf = commandByte s.params k :: List.replicate 63 0#8 :=
  ⟨⟨rfl, rfl, rfl, quiet_armReady.2.2.2⟩, (by decide : defaultParams.ok = true), rfl, rfl⟩

/-- The sentinel is no opcode byte. -/
theorem witness_OpcodeByteIsDispatched_sentinel : ∀ k : Command, 0xFF#8 ≠ commandByte defaultParams k :=
  fun k => by cases k <;> decide

theorem witness_SentReplyReturnsToTheHunt :
    (armReady (quietIn .replyAck 0#8) ∧ (quietIn .replyAck 0#8).proto ≠ .flashing) ∧
    (armReady (quietIn .flashing 0#8) ∧ (quietIn .flashing 0#8).proto = .flashing) :=
  ⟨⟨⟨rfl, rfl, rfl, by decide⟩, by decide⟩, ⟨rfl, rfl, rfl, by decide⟩, rfl⟩

theorem witness_PageIsStoredAndAcknowledged :
    let s := quietIn .flashing 0xAA#8
    replyReady s ∧ s.proto = .flashing ∧ s.rxBuf = (0xAA#8 :: List.replicate 63 0#8) ++ [] ∧
      (0xAA#8 :: List.replicate 63 0#8).length = 64 ∧ s.storResults.head? ≠ some false ∧
      ({ s with storResults := [false] } : State).storResults.head? = some false :=
  ⟨⟨rfl, rfl, by decide⟩, rfl, rfl, rfl, by decide, rfl⟩

theorem witness_AcknowledgedPageCountsOrReboots :
    (let s := { quietIn .flashing 0#8 with pages := 0xFF#8, pageIdx := 0xFE#8 }
     s.proto = .flashing ∧ s.pageIdx + 1#8 = s.pages) ∧
    (let s := { quietIn .flashing 0#8 with pages := 2#8, pageIdx := 0#8 }
     s.proto = .flashing ∧ s.pageIdx + 1#8 ≠ s.pages ∧ armReady s) :=
  ⟨by decide, rfl, by decide, rfl, rfl, rfl, by decide⟩

theorem witness_DataByteIsStoredAndCounted :
    let s := expecting (.rxByte 0xFF#8)
    s.events = .rxByte 0xFF#8 :: [] ∧ s.dir = .rx ∧ s.rxArmed = true ∧ s.rxEsc = false ∧
      s.rxCnt.toNat < s.rxBuf.length ∧ s.rxCnt + 1#7 = s.rxLen ∧
      ({ s with rxLen := 64#7, rxCnt := 62#7 } : State).rxCnt + 1#7 ≠
        ({ s with rxLen := 64#7, rxCnt := 62#7 } : State).rxLen := by decide

theorem witness_PadPositionByteIsDiscarded :
    let s := { expecting (.rxByte 0xFF#8) with rxEsc := true }
    s.events = .rxByte 0xFF#8 :: [] ∧ s.dir = .rx ∧ s.rxArmed = true ∧ s.rxEsc = true := by decide

theorem witness_ByteOutsideAReceiveIsLost :
    let s := { expecting (.rxByte 0xAB#8) with dir := .tx, rxArmed := false }
    s.events = .rxByte 0xAB#8 :: [] ∧ s.dir = .tx ∧ s.rxArmed = false := by decide

theorem witness_TxReadyEmitsOneByteOrNothing :
    let s := { expecting .txReady with txActive := true, txLen := 3#5, txBuf := [0xFF#8, 0x01#8, 0x01#8] }
    s.events = .txReady :: [] ∧ s.txActive = true ∧ s.txDrain = false ∧
      (expecting .txReady).txActive = false ∧ ({ s with txPad := true } : State).txPad = true ∧
      s.txPad = false ∧ s.txBuf[s.txCnt.toNat]? = some 0xFF#8 := by decide

theorem witness_TxIdleTurnsTheLinkAround :
    let s := { expecting .txIdle with txActive := true, txDrain := true, dir := .tx, rxArmed := false, proto := .replyAck }
    s.events = .txIdle :: [] ∧ s.txDrain = true ∧ s.rxArmed = false ∧ 64 ≤ s.params.rxBufSize ∧ s.proto ≠ .flashing ∧
      (expecting .txIdle).txDrain = false := by decide

/-- The end of a page acknowledgement: page 0 of 2, and page 254 of 255. -/
theorem witness_TxIdleTurnsTheLinkAround_flashing :
    let s := { pageSent with pages := 2#8 }
    let l := { pageSent with pages := 0xFF#8, pageIdx := 0xFE#8 }
    (s.events = .txIdle :: [] ∧ s.txDrain = true ∧ s.rxArmed = false ∧ 64 ≤ s.params.rxBufSize ∧ s.proto = .flashing ∧
      s.pageIdx + 1#8 ≠ s.pages) ∧
    l.events = .txIdle :: [] ∧ l.txDrain = true ∧ l.proto = .flashing ∧ l.pageIdx + 1#8 = l.pages := by decide

theorem witness_SendEmitsTheStuffedFrame :
    1 ≤ (ackFrame defaultParams).length ∧ (ackFrame defaultParams).length ≤ 18 ∧
      1 ≤ (List.replicate 18 0xFF#8).length ∧ (List.replicate 18 0xFF#8).length ≤ 18 := by decide

theorem witness_ReceiverStoresTheUnstuffedBytes :
    let s := { State.reset with rxLen := 64#7 }
    s.dir = .rx ∧ s.rxArmed = true ∧ s.rxEsc = false ∧
      s.rxCnt.toNat + (List.replicate 63 0xFF#8).length < s.rxLen.toNat ∧ s.rxLen.toNat ≤ s.rxBuf.length := by decide

theorem witness_AddressedFrameExecutesItsCommand :
    Inv node5 ∧ node5.proto = .waitHeader ∧ node5.rxEsc = false ∧ node5.rxCnt = 0#7 ∧
      ¬(node5.devId = node5.params.broadcastId ∧ node5.fwDone = false) ∧
      encodeH2D node5.params node5.devId (.setId 0xFF#8) = some ([0xFF#8, 0x05#8, 0x07#8] ++ [0xFF#8]) :=
  ⟨node5_inv, rfl, rfl, rfl, by decide, by decide⟩

theorem witness_SampleRunsThePipelineOnce :
    (expecting (.sample identityQuat)).events = .sample identityQuat :: [] := rfl

theorem witness_CompassKeepsTheMaximum : (expecting (.compass 7)).events = .compass 7 :: [] := rfl

theorem witness_FirmwareDoneEndsTheDetour :
    (let s := expecting .fwDone
     s.events = .fwDone :: [] ∧ s.proto ≠ .downloadingFirmware) ∧
    (let s := { expecting .fwDone with proto := .downloadingFirmware, rxArmed := false }
     s.events = .fwDone :: [] ∧ s.proto = .downloadingFirmware ∧ s.txActive = false ∧ s.rxArmed = false ∧
       64 ≤ s.params.rxBufSize) := by decide

theorem witness_ResetLoadsTheRecordAndInitialises : (expecting .reset).events = .reset :: [] := rfl

theorem witness_ResetForgetsAllButStorageAndBuffers :
    (∃ s t : State, s ≠ t ∧ s.params = t.params ∧ s.record = t.record ∧ s.progMem = t.progMem ∧
      s.storResults = t.storResults ∧ s.rxBuf = t.rxBuf ∧ s.txBuf = t.txBuf ∧ s.events = t.events ∧
      s.wireOut = t.wireOut ∧ s.cpOut = t.cpOut ∧ s.rebootReqs = t.rebootReqs) ∧
    ∃ t, exec .flash quiet = .next t ∧ quiet.storResults.head? ≠ some false :=
  ⟨⟨quiet, State.reset, by decide, rfl, rfl, rfl, rfl, rfl, rfl, rfl, rfl, rfl, rfl⟩, _, rfl, by decide⟩

theorem witness_StepRunsTheDecodedInstruction_request :
    let s := expecting (.cp ⟨0x2#4, 1#128, 2#128, 0#128, 0#9⟩)
    s.events = .cp ⟨0x2#4, 1#128, 2#128, 0#128, 0#9⟩ :: [] ∧
      decode s.params (.creq ⟨0x2#4, 1#128, 2#128, 0#128, 0#9⟩) = .ok (.mul 1#32 2#32) := by decide

theorem witness_StepRunsTheDecodedInstruction_opcode :
    let s := { expecting (.rxByte 0x08#8) with proto := .waitCommand }
    s.events = .rxByte 0x08#8 :: [] ∧ s.dir = .rx ∧ s.rxArmed = true ∧ s.rxEsc = false ∧ s.rxCnt = 0#7 ∧ s.rxLen = 1#7 ∧
      s.rxBuf ≠ [] ∧ s.proto = .waitCommand ∧ decodeCommand s.params 0x08#8 [] = .ok .flash := by decide

theorem witness_StepRunsTheDecodedInstruction_byte :
    let s := { expecting (.rxByte 0x05#8) with proto := .waitNewId }
    s.events = .rxByte 0x05#8 :: [] ∧ s.dir = .rx ∧ s.rxArmed = true ∧ s.rxEsc = false ∧ s.rxCnt = 0#7 ∧ s.rxLen = 1#7 ∧
      s.rxBuf ≠ [] ∧ s.proto = .waitNewId ∧ decodePayload s.params .setId [0x05#8] = .ok (.setId 0x05#8) := by decide

theorem witness_StepRunsTheDecodedInstruction_quaternion :
    let s := { expecting (.rxByte 0x40#8) with proto := .waitUnityOffset, rxCnt := 15#7, rxLen := 16#7 }
    s.events = .rxByte 0x40#8 :: [] ∧ s.dir = .rx ∧ s.rxArmed = true ∧ s.rxEsc = false ∧ s.rxCnt = 15#7 ∧
      s.rxLen = 16#7 ∧ 16 ≤ s.rxBuf.length ∧ s.proto = .waitUnityOffset ∧
      decodePayload s.params .setUnityOffset (s.rxBuf.take 15 ++ [0x40#8]) =
        .ok (.setUnityOffset ⟨0#32, 0#32, 0#32, 0x40000000#32⟩) := by decide

theorem witness_EveryStepKeepsTheInvariants : Inv node5 ∧ ∃ t, step node5 = .next t := ⟨node5_inv, _, rfl⟩

theorem witness_OnlyReservedRequestsAreRefused : Inv node5 := node5_inv

/-- Each of the three resets. -/
theorem witness_ConfigurationIsWrittenOnlyByItsCommands_reset :
    (∃ t, step (expecting .reset) = .next t ∧ resetIn (expecting .reset) t) ∧
    (∃ t, step (hearing .waitNumPages 0#8) = .next t ∧ resetIn (hearing .waitNumPages 0#8) t) ∧
    (let s := { pageSent with pages := 1#8 }
     ∃ t, step s = .next t ∧ resetIn s t) :=
  ⟨⟨_, rfl, .inl ⟨_, rfl, rfl⟩⟩, ⟨_, rfl, .inr (.inl ⟨_, _, rfl, rfl, hearing_completesWith _ _, rfl⟩)⟩,
    _, rfl, .inr (.inr ⟨_, rfl, rfl, rfl, rfl, rfl⟩)⟩

/-- A write of DEV_ID, AXIS and Q_CHIP by the byte of its command. -/
theorem witness_ConfigurationIsWrittenOnlyByItsCommands :
    (∃ t, step (hearing .waitNewId 0x05#8) = .next t ∧ t.devId = 0x05#8) ∧
    (∃ t, step (hearing .waitAxis 0x3F#8) = .next t ∧ t.axis = axisOfByte 0x3F#8) ∧
    (let s := { hearing .waitCommand 0x04#8 with qRaw := ⟨0#32, 1#32, 0#32, 0#32⟩ }
     ∃ t, step s = .next t ∧ t.qChip = ⟨0#32, 0xFFFFFFFF#32, 0#32, 0#32⟩) :=
  ⟨⟨_, rfl, rfl⟩, ⟨_, rfl, rfl⟩, _, rfl, by decide⟩

theorem witness_StorageIsWrittenOnlyByFlashAndPages :
    let s := { hearing .waitCommand 0x08#8 with devId := 0x05#8 }
    ∃ t, step s = .next t ∧ t.record ≠ s.record := ⟨_, rfl, by decide⟩

theorem witness_StorageIsWrittenOnlyByFlashAndPages_page :
    let s := { hearing .flashing 0xAA#8 with rxLen := 64#7, rxCnt := 63#7 }
    ∃ t, step s = .next t ∧ memRead t.progMem 63 = some 0xAA#8 := ⟨_, rfl, rfl⟩

theorem witness_HandshakeIsTakenOncePerBoot :
    (∃ t, step (hearing .waitId 0x00#8) = .next t ∧ t.proto = .downloadingFirmware) ∧
    (let s := { expecting .reset with fwDone := true }
     ∃ t, step s = .next t ∧ t.fwDone = false) := ⟨⟨_, rfl, rfl⟩, _, rfl, rfl⟩

theorem witness_IdleBlockKeepsItsState : State.reset.events = [] := rfl

end Sys2Proof.Tests
end

