-- ==== Sys2Proof/Proofs/QuaternionProducts.lean ====
section
/-! PROOFS. QCOPY and the in-place products (spec 41_quaternion.md R141, R146 to R148). The one fact behind both
statements is that a copy is the quaternion copied: it makes the snapshot of R148 the operand as it was on entry. -/

namespace Sys2Proof.Machine

open Sys2Proof

/-! ## The meanings, each as one shared operation -/

theorem exec_qcopy (a : Quat) (s : State) : exec (.qcopy a) s = returnQuat (qcopyQ a) s := rfl

theorem exec_qmul (l r : Quat) (s : State) : exec (.qmul l r) s = returnQuat (qmulQ l r) s := rfl

theorem exec_qlmul (l r : Quat) (s : State) : exec (.qlmul l r) s = returnQuat (qlmulQ l r) s := rfl

theorem exec_qrmul (l r : Quat) (s : State) : exec (.qrmul l r) s = returnQuat (qrmulQ l r) s := rfl

/-- What the machine does for a quaternion result is what the statements call `answered` (R96). -/
theorem returnQuat_eq_answered (r : Quat) (s : State) : returnQuat r s = .next (answered r s) := rfl

/-! ## The copy and the snapshot -/

/-- A copy taken component by component is the whole quaternion (R141). -/
@[simp] theorem qcopyQ_eq_self (a : Quat) : qcopyQ a = a := by
  cases a with
  | mk w x y z => rfl

/-- The snapshot of the left operand is that operand (R146, R148). -/
theorem qlmulQ_eq_qmulQ (l r : Quat) : qlmulQ l r = qmulQ l r :=
  congrArg (qmulQ · r) (qcopyQ_eq_self l)

/-- The snapshot of the right operand is that operand (R147, R148). -/
theorem qrmulQ_eq_qmulQ (l r : Quat) : qrmulQ l r = qmulQ l r :=
  congrArg (qmulQ l ·) (qcopyQ_eq_self r)

/-! ## The statements -/

/-- Settles O9: the operand returned is its copy. -/
theorem qcopyReturnsItsOperand : Obligations.QcopyReturnsItsOperand := by
  intro a s
  rw [exec_qcopy, qcopyQ_eq_self, returnQuat_eq_answered]

/-- Settles O12: both in-place products are QMUL, since each reads its mutable operand from the snapshot. -/
theorem inPlaceProductsReturnTheProduct : Obligations.InPlaceProductsReturnTheProduct := by
  intro l r s
  have left_eq : exec (.qlmul l r) s = exec (.qmul l r) s := by
    rw [exec_qlmul, qlmulQ_eq_qmulQ, exec_qmul]
  have right_eq : exec (.qrmul l r) s = exec (.qmul l r) s := by
    rw [exec_qrmul, qrmulQ_eq_qmulQ, exec_qmul]
  have product : exec (.qmul l r) s = .next (answered (qmulQ l r) s) := by
    rw [exec_qmul, returnQuat_eq_answered]
  exact ⟨left_eq.trans product, right_eq.trans product, left_eq, right_eq⟩

end Sys2Proof.Machine
end

