-- ==== Sys2Proof/Proofs/ReceivedBytes.lean ====
section
/-! PROOFS. The byte in a pad position and the data byte (spec 42_codec.md R173, R174). The rule for a received byte is
stated once per case, as an equation; each statement is then a step that takes one of these cases. -/

namespace Sys2Proof.Machine

open Sys2Proof

/-! ## The escape flag -/

/-- Where no pad is owed, the flag after a byte says whether that byte is the sentinel (R174). -/
@[simp] theorem nextRxEsc_of_not_esc (p : Params) (b : Byte) : nextRxEsc p false b = decide (b = p.sentinel) := by
  rw [nextRxEsc, Bool.false_or, beq_eq_decide]

/-- The state after a data byte, with the escape flag as R174 gives it. -/
theorem stored_of_not_esc {s : State} (b : Byte) (he : s.rxEsc = false) :
    stored b s = { s with
      rxBuf := s.rxBuf.set s.rxCnt.toNat b, rxCnt := s.rxCnt + 1#7, rxEsc := decide (b = s.params.sentinel) } := by
  rw [stored, he, nextRxEsc_of_not_esc]

/-- The state after the last data byte: a sentinel in that place leaves the escape flag set (R174). -/
theorem completed_of_not_esc {s : State} (b : Byte) (he : s.rxEsc = false) :
    completed b s = { s with
      rxBuf := s.rxBuf.set s.rxCnt.toNat b, rxCnt := s.rxCnt + 1#7, rxEsc := decide (b = s.params.sentinel),
      rxArmed := false } := by
  rw [completed, stored_of_not_esc b he]

/-! ## The receiver, one equation per case -/

/-- The step that takes a received byte (R250). -/
theorem step_rxByte {s : State} {b : Byte} {rest : List Event} (h : s.events = .rxByte b :: rest) :
    step s = rxByteEvent b { s with events := rest } :=
  step_event h

/-- A byte in a pad position clears the escape flag, unexamined (R173). -/
theorem rxByteEvent_of_esc {s : State} (b : Byte) (hl : listening s = true) (he : s.rxEsc = true) :
    rxByteEvent b s = .next { s with rxEsc := false } := by
  rw [rxByteEvent, if_pos hl, if_pos he]

/-- A byte in no pad position is data (R174). -/
theorem rxByteEvent_of_not_esc {s : State} (b : Byte) (hl : listening s = true) (he : s.rxEsc = false) :
    rxByteEvent b s = dataByte b s := by
  rw [rxByteEvent, if_pos hl, if_neg (Bool.eq_false_iff.1 he)]

/-- A data byte before the last of its receive (R174). -/
theorem dataByte_of_more {s : State} (b : Byte) (hroom : s.rxCnt.toNat < s.rxBuf.length)
    (hmore : s.rxCnt + 1#7 ≠ s.rxLen) : dataByte b s = .next (stored b s) := by
  rw [dataByte, if_pos hroom, if_neg hmore]

/-- The last data byte of a receive (R174, R175). -/
theorem dataByte_of_last {s : State} (b : Byte) (hroom : s.rxCnt.toNat < s.rxBuf.length)
    (hlast : s.rxCnt + 1#7 = s.rxLen) : dataByte b s = rxdone (completed b s) := by
  rw [dataByte, if_pos hroom, if_pos hlast]

/-! ## The statements -/

/-- Settles O40: the step is that of a data byte, split by whether the byte is the last one expected. -/
theorem dataByteIsStoredAndCounted : Obligations.DataByteIsStoredAndCounted := by
  intro s b rest hev hdir harmed hesc hroom
  have step_data : step s = dataByte b { s with events := rest } := by
    rw [step_rxByte hev]
    exact rxByteEvent_of_not_esc b (listening_eq_true.2 ⟨hdir, harmed⟩) hesc
  constructor
  · intro hmore
    calc step s = dataByte b { s with events := rest } := step_data
      _ = .next (stored b { s with events := rest }) := dataByte_of_more b hroom hmore
      _ = _ := congrArg Host.Outcome.next (stored_of_not_esc b hesc)
  · intro hlast
    calc step s = dataByte b { s with events := rest } := step_data
      _ = rxdone (completed b { s with events := rest }) := dataByte_of_last b hroom hlast
      _ = _ := congrArg rxdone (completed_of_not_esc b hesc)

/-- Settles O41: the step is that of a pad position, whose rule does not look at the byte. -/
theorem padPositionByteIsDiscarded : Obligations.PadPositionByteIsDiscarded := by
  intro s b rest hev hdir harmed hesc
  rw [step_rxByte hev]
  exact rxByteEvent_of_esc b (listening_eq_true.2 ⟨hdir, harmed⟩) hesc

end Sys2Proof.Machine
end

