-- ==== Sys2Proof/Proofs/RepliesAndReceives.lean ====
section
/-! PROOFS. Commands that answer with an acknowledgement, and the entries of the sequencer on receive-complete and
send-complete (spec 43_protocol.md R191 to R194, R200, R205, R209). Two rules carry all five statements: what an
acknowledgement starts where a reply can be sent, and what a receive arms where one can be armed. -/

namespace Sys2Proof.Machine

open Sys2Proof

/-! ## What a ready block starts -/

/-- Where a reply can be sent, an acknowledgement starts its frame (R222, R223). -/
theorem ack_of_replyReady {s : State} (st : ProtoState) (h : replyReady s) :
    ack st s = .next (replyStarted (ackFrame s.params) st s) := by
  obtain ⟨htx, hrx, hsize⟩ := h
  have room : 3 ≤ s.params.txBufSize := le_trans (by decide) hsize
  exact ack_eq_next.2 ⟨⟨htx, hrx⟩, room, rfl⟩

/-- Where a receive can be armed, one of up to 64 bytes is (R170). -/
theorem arm_of_armReady {s : State} {n : Nat} (st : ProtoState) (h : armReady s) (h1 : 1 ≤ n) (h64 : n ≤ 64) :
    arm n (setProto st s) = .next (receiveArmed (BitVec.ofNat 7 n) st s) := by
  obtain ⟨htx, hrx, hdir, hsize⟩ := h
  exact arm_of_ready htx hrx hdir h1 (h64.trans hsize)

/-- Where a receive can be armed, the header hunt arms one byte in the state its byte selects (R191). -/
theorem header_of_armReady {s : State} (b : Byte) (h : armReady s) :
    header b s = .next (receiveArmed 1#7 (headerState s.params b) s) :=
  arm_of_armReady _ h le_rfl (by decide)

/-! ## The commands that store an operand -/

theorem exec_setUnityOffset_of_replyReady {s : State} (q : Quat) (h : replyReady s) :
    exec (.setUnityOffset q) s = .next (replyStarted (ackFrame s.params) .replyAck { s with qUnity := q }) := by
  rw [exec_setUnityOffset]
  exact ack_of_replyReady .replyAck h

theorem exec_setId_of_replyReady {s : State} (n : Byte) (h : replyReady s) :
    exec (.setId n) s = .next (replyStarted (ackFrame s.params) .replyAck { s with devId := n }) := by
  rw [exec_setId]
  exact ack_of_replyReady .replyAck h

/-! ## The receive buffer -/

/-- A one-byte receive reads the first byte of the buffer (R194). -/
theorem withRxByte_of_cons {s : State} {b : Byte} {bs : List Byte} (f : Byte → Result) (h : s.rxBuf = b :: bs) :
    withRxByte s f = f b := by
  rw [withRxByte, h]

/-- A read of the bytes the buffer begins with (R60). -/
theorem withRxBytes_of_append {s : State} {vs bs : List Byte} (f : List Byte → Result) (h : s.rxBuf = vs ++ bs) :
    withRxBytes vs.length s f = f vs := by
  have fits : vs.length ≤ s.rxBuf.length := by simp [h]
  have front : s.rxBuf.take vs.length = vs := by rw [h, List.take_left]
  rw [withRxBytes, if_pos fits, front]

/-! ## The entry on receive-complete, one equation per state -/

/-- The byte received in `WaitHeader` goes to the header hunt (R194). -/
theorem rxdone_of_waitHeader {s : State} {b : Byte} {bs : List Byte} (hp : s.proto = .waitHeader)
    (hbuf : s.rxBuf = b :: bs) : rxdone s = header b s := by
  rw [rxdone, hp]
  exact withRxByte_of_cons _ hbuf

/-- The byte received in `WaitNewId` is the operand of SET_ID (R209). -/
theorem rxdone_of_waitNewId {s : State} {b : Byte} {bs : List Byte} (hp : s.proto = .waitNewId)
    (hbuf : s.rxBuf = b :: bs) : rxdone s = exec (.setId b) s := by
  rw [rxdone, hp]
  exact withRxByte_of_cons _ hbuf

/-- The sixteen bytes received in `WaitUnityOffset` are the operand of SET_UNITY_OFFSET (R205). -/
theorem rxdone_of_waitUnityOffset {s : State} {vs bs : List Byte} {q : Quat} (hp : s.proto = .waitUnityOffset)
    (hbuf : s.rxBuf = vs ++ bs) (hlen : vs.length = 16) (hq : quatOfBytes s.params.wordOrder vs = some q) :
    rxdone s = exec (.setUnityOffset q) s := by
  rw [rxdone, hp]
  change unityPayload s = _
  rw [unityPayload, ← hlen, withRxBytes_of_append _ hbuf, hq]

/-! ## The entry on send-complete -/

/-- Outside the page loop a completed send returns to the header hunt (R193). -/
theorem txdone_of_ne_flashing {s : State} (hp : s.proto ≠ .flashing) : txdone s = arm 1 (setProto .waitHeader s) :=
  if_neg hp

/-- In the page loop a completed send is the acknowledgement of a page (R193, R220). -/
theorem txdone_of_flashing {s : State} (hp : s.proto = .flashing) : txdone s = pageAcknowledged s :=
  if_pos hp

/-! ## The statements -/

/-- Settles O27: the buffer's first sixteen bytes are the operand, and the command stores its operand. -/
theorem setUnityOffsetStoresThePayloadWords : Obligations.SetUnityOffsetStoresThePayloadWords := by
  constructor
  · intro q s h
    exact exec_setUnityOffset_of_replyReady q h
  · intro s b0 b1 b2 b3 b4 b5 b6 b7 b8 b9 b10 b11 b12 b13 b14 b15 bs h hp horder hbuf
    have words : quatOfBytes s.params.wordOrder [b0, b1, b2, b3, b4, b5, b6, b7, b8, b9, b10, b11, b12, b13, b14, b15] =
        some ⟨b3 ++ b2 ++ b1 ++ b0, b7 ++ b6 ++ b5 ++ b4, b11 ++ b10 ++ b9 ++ b8, b15 ++ b14 ++ b13 ++ b12⟩ := by
      rw [horder]
      rfl
    rw [rxdone_of_waitUnityOffset hp hbuf rfl words]
    exact exec_setUnityOffset_of_replyReady _ h

/-- Settles O23: PING is the acknowledgement alone. -/
theorem pingSendsOnlyTheAcknowledgement : Obligations.PingSendsOnlyTheAcknowledgement := by
  intro s h
  rw [exec_ping]
  exact ack_of_replyReady .replyAck h

/-- Settles O29: the command stores its operand unexamined, and on completion the operand is the byte received. -/
theorem setIdStoresAnyIdentity : Obligations.SetIdStoresAnyIdentity := by
  constructor
  · intro n s h
    exact exec_setId_of_replyReady n h
  · intro n bs s h hp hbuf
    rw [rxdone_of_waitNewId hp hbuf]
    exact exec_setId_of_replyReady n h

/-- Settles O34: the byte received goes to the header hunt, which selects the state by that byte. -/
theorem headerHuntAdvancesOnTheSentinel : Obligations.HeaderHuntAdvancesOnTheSentinel := by
  intro s b bs h hp hbuf
  rw [rxdone_of_waitHeader hp hbuf, header_of_armReady b h, headerState]

/-- Settles O37, split by whether the block is in the page loop. -/
theorem sentReplyReturnsToTheHunt : Obligations.SentReplyReturnsToTheHunt := by
  intro s h
  constructor
  · intro hp
    rw [txdone_of_ne_flashing hp]
    exact arm_of_armReady .waitHeader h le_rfl (by decide)
  · intro hp
    exact txdone_of_flashing hp

end Sys2Proof.Machine
end

section
/-! PROOFS. The encodings read back (spec 30_encoding.md): a field stands in a request or a payload where the decoder
looks for it, pairwise distinct opcode bytes name one command or reply each, and a stuffed sequence is read as what
was stuffed. -/

namespace Sys2Proof.Machine

open Sys2Proof

/-! ## Fields (R62, R90, R96) -/

/-- Each of four joined words is cut out again at its place. -/
theorem extractLsb'_append_four {w : Nat} (d c b a : BitVec w) :
    (d ++ c ++ b ++ a).extractLsb' 0 w = a ∧ (d ++ c ++ b ++ a).extractLsb' w w = b ∧
    (d ++ c ++ b ++ a).extractLsb' (w + w) w = c ∧ (d ++ c ++ b ++ a).extractLsb' (w + w + w) w = d := by
  refine ⟨BitVec.extractLsb'_append_eq_right, ?_, ?_, ?_⟩
  · rw [BitVec.extractLsb'_append_eq_of_le le_rfl, Nat.sub_self, BitVec.extractLsb'_append_eq_right]
  · rw [BitVec.extractLsb'_append_eq_of_le (by omega), Nat.add_sub_cancel, BitVec.extractLsb'_append_eq_of_le le_rfl,
      Nat.sub_self, BitVec.extractLsb'_append_eq_right]
  · rw [BitVec.extractLsb'_append_eq_of_le (by omega), Nat.add_sub_cancel,
      BitVec.extractLsb'_append_eq_of_le (by omega), Nat.add_sub_cancel, BitVec.extractLsb'_append_eq_left]

/-- The decoder reads each component of a 128-bit operand where the encoder has put it (R96). -/
@[simp] theorem quatOfBits_bitsOfQuat (q : Quat) : quatOfBits (bitsOfQuat q) = q := by
  obtain ⟨hw, hx, hy, hz⟩ := extractLsb'_append_four q.z q.y q.x q.w
  exact congr (congr (congr (congrArg Quat.mk hw) hx) hy) hz

@[simp] theorem scalarQuat_w (a : Word) : (scalarQuat a).w = a := rfl

/-- The decoder reads each axis field of the operand `AX` where the encoder has put it (R96). -/
@[simp] theorem axisOfBits_bitsOfAxis (ax : Axis) : axisOfBits (bitsOfAxis ax) = ax := by
  obtain ⟨xs, xi, ys, yi, zs, zi⟩ := ax
  revert xs xi ys yi zs zi
  decide

/-- Four bytes cut from a word join to the word again. -/
theorem append_extractLsb'_bytes (v : Word) :
    v.extractLsb' 24 8 ++ v.extractLsb' 16 8 ++ v.extractLsb' 8 8 ++ v.extractLsb' 0 8 = v := by
  rw [BitVec.extractLsb'_append_extractLsb'_eq_extractLsb' (rfl : 24 = 16 + 8),
    BitVec.extractLsb'_append_extractLsb'_eq_extractLsb' (rfl : 16 = 8 + 8),
    BitVec.extractLsb'_append_extractLsb'_eq_extractLsb' (rfl : 8 = 0 + 8)]
  exact BitVec.extractLsb'_eq_self

/-- A word is read back from its payload bytes, in both byte orders (R62). -/
theorem exists_wordBytes (o : WordOrder) (v : Word) :
    ∃ b0 b1 b2 b3 : Byte, wordBytes o v = [b0, b1, b2, b3] ∧ wordOfBytes o b0 b1 b2 b3 = v := by
  cases o <;> exact ⟨_, _, _, _, rfl, append_extractLsb'_bytes v⟩

/-- A quaternion is read back from its payload bytes, in both byte orders (R62, R90). -/
@[simp] theorem quatOfBytes_quatBytes (o : WordOrder) (q : Quat) : quatOfBytes o (quatBytes o q) = some q := by
  obtain ⟨w0, w1, w2, w3, hw, ew⟩ := exists_wordBytes o q.w
  obtain ⟨x0, x1, x2, x3, hx, ex⟩ := exists_wordBytes o q.x
  obtain ⟨y0, y1, y2, y3, hy, ey⟩ := exists_wordBytes o q.y
  obtain ⟨z0, z1, z2, z3, hz, ez⟩ := exists_wordBytes o q.z
  simp [quatBytes, hw, hx, hy, hz, quatOfBytes, ew, ex, ey, ez]

/-! ## Opcode bytes (R13, R88) -/

/-- The constraints on the parameters, spelt out (R13; 92_eei_decisions.md D30). -/
theorem params_ok_iff {p : Params} :
    p.ok = true ↔ p.ops.toList.Nodup ∧ p.pad ≠ p.sentinel ∧ 64 ≤ p.rxBufSize ∧ 18 ≤ p.txBufSize := by
  simp [Params.ok, and_assoc]

/-- No opcode byte is one of those before it in the order of R88. -/
theorem opcodes_distinct {p : Params} (h : p.ok = true) : p.ops.toList.Pairwise fun a b => b ≠ a :=
  (params_ok_iff.1 h).1.imp Ne.symm

/-- Under distinct opcode bytes the byte of a command names that command (R88, R198). -/
theorem commandOf_commandByte {p : Params} (h : p.ok = true) (k : Command) :
    commandOf p (commandByte p k) = some k := by
  have distinct := opcodes_distinct h
  simp only [OpBytes.toList, List.pairwise_cons, List.mem_cons, forall_eq_or_imp] at distinct
  cases k <;> simp [commandByte, commandOf, distinct]

/-- Under distinct opcode bytes the byte of a reply names that reply (R88). -/
theorem replyOf_replyByte {p : Params} (h : p.ok = true) (k : ReplyKind) : replyOf p (replyByte p k) = some k := by
  have distinct := opcodes_distinct h
  simp only [OpBytes.toList, List.pairwise_cons, List.mem_cons, forall_eq_or_imp] at distinct
  cases k <;> simp [replyByte, replyOf, distinct]

/-! ## Frames (R81, R86) -/

/-- The parts of a command frame are read as the instruction they come from (R86, R90 to R92). -/
theorem decodePayload_commandParts {p : Params} {i : Instr} {k : Command} {payload : List Byte}
    (h : commandParts p i = some (k, payload)) : decodePayload p k payload = .ok i := by
  cases i <;> cases h
  case setUnityOffset q => simp [decodePayload, withPayloadQuat]
  all_goals rfl

/-- Every command has the parts of a command frame (R12, R81). -/
theorem exists_commandParts {i : Instr} (p : Params) (h : i.format = .h2d) :
    ∃ k payload, commandParts p i = some (k, payload) := by
  cases i <;> cases h <;> exact ⟨_, _, rfl⟩

/-- A command's opcode byte and payload are read as that command (R88, R89). -/
theorem decodeCommand_commandParts {p : Params} (hok : p.ok = true) {i : Instr} {k : Command} {payload : List Byte}
    (h : commandParts p i = some (k, payload)) : decodeCommand p (commandByte p k) payload = .ok i := by
  rw [decodeCommand, commandOf_commandByte hok]
  exact decodePayload_commandParts h

/-- A reply frame is read as its reply with its payload (R81, R86). -/
theorem decodeD2H_encodeD2H {p : Params} (hok : p.ok = true) (k : ReplyKind) {payload : List Byte}
    (hlen : payload.length = k.payloadLen) : decodeD2H p (encodeD2H p k payload) = .ok (k.instr, payload) := by
  simp [decodeD2H, encodeD2H, replyOf_replyByte hok, hlen]

/-- A reply instruction is that of its reply (R12). -/
theorem instr_of_replyKindOf {i : Instr} {k : ReplyKind} (h : replyKindOf i = some k) : k.instr = i := by
  cases i <;> cases h <;> rfl

/-! ## Stuffing (R83) -/

theorem stuff_nil (p : Params) : stuff p [] = [] := rfl

/-- A sentinel is followed by a pad (R83). -/
theorem stuff_sentinel (p : Params) (bs : List Byte) :
    stuff p (p.sentinel :: bs) = p.sentinel :: p.pad :: stuff p bs := by
  simp [stuff]

/-- Any other byte goes as it is (R83). -/
theorem stuff_of_ne {p : Params} {b : Byte} (h : b ≠ p.sentinel) (bs : List Byte) :
    stuff p (b :: bs) = b :: stuff p bs := by
  simp [stuff, h]

/-! ## The statements -/

/-- Settles O19: each operand stands in the field of the request that the decoder reads. -/
theorem computeRequestsRoundTrip : Obligations.ComputeRequestsRoundTrip := by
  intro i hi
  cases i
  case toFloat | fromFloat | mul | square | sqrt | qcopy | qinv | qmul | qlmul | qrmul | qremap | qpipe =>
    exact ⟨_, rfl, by simp [decodeCreq]⟩
  all_goals cases hi

/-- Settles O20: the opcode byte names the command, and its payload is read as the instruction's own. -/
theorem commandFramesRoundTrip : Obligations.CommandFramesRoundTrip := by
  intro p id i hok hi
  obtain ⟨k, payload, hparts⟩ := exists_commandParts p hi
  refine ⟨p.sentinel :: id :: commandByte p k :: payload, by simp [encodeH2D, hparts], ?_⟩
  simp [decodeH2D, decodeCommand_commandParts hok hparts, Decoded.map]

/-- Settles O21, format by format: the round trips of requests and of command frames, and that of reply frames. -/
theorem everyInstructionRoundTripsInItsFormat : Obligations.EveryInstructionRoundTripsInItsFormat := by
  intro p e i hok hlen
  have reply_frame : ∀ k, replyKindOf i = some k →
      decodeD2H p (encodeD2H p k e.replyPayload) = .ok (i, e.replyPayload) := by
    intro k hk
    rw [decodeD2H_encodeD2H hok k (hlen k hk), instr_of_replyKindOf hk]
  refine ⟨?_, reply_frame⟩
  cases hf : i.format with
  | creq =>
    obtain ⟨r, henc, hdec⟩ := computeRequestsRoundTrip i hf
    exact ⟨.creq r, by simp [encode, hf, henc], hdec⟩
  | h2d =>
    obtain ⟨bs, henc, hdec⟩ := commandFramesRoundTrip p e.deviceId i hok hf
    exact ⟨.h2d bs, by simp [encode, hf, henc], by simp [decode, hdec, Decoded.map]⟩
  | d2h =>
    obtain ⟨k, hk⟩ : ∃ k, replyKindOf i = some k := by
      cases i <;> cases hf <;> exact ⟨_, rfl⟩
    exact ⟨.d2h (encodeD2H p k e.replyPayload), by simp [encode, hf, hk],
      by simp [decode, reply_frame k hk, Decoded.map]⟩

/-- Settles O22, by induction on the sequence: a sentinel's pad is the one byte that is skipped after it. -/
theorem unstuffUndoesStuff : Obligations.UnstuffUndoesStuff := by
  intro p S
  induction S with
  | nil => exact ⟨rfl, rfl⟩
  | cons b bs ih =>
    obtain ⟨undone, length_eq⟩ := ih
    by_cases hb : b = p.sentinel
    · subst hb
      rw [stuff_sentinel]
      simp only [unstuff, unstuffFrom, beq_self_eq_true, List.length_cons, List.count_cons_self] at undone ⊢
      exact ⟨by rw [undone], by omega⟩
    · rw [stuff_of_ne hb]
      simp only [unstuff, unstuffFrom, beq_eq_false_iff_ne.2 hb, List.length_cons,
        List.count_cons_of_ne hb] at undone ⊢
      exact ⟨by rw [undone], by omega⟩

/-- Settles O18, by evaluation of the two decoders on the words written out. -/
theorem writtenOutWordsDecode : Obligations.WrittenOutWordsDecode := by
  unfold Obligations.WrittenOutWordsDecode
  decide

end Sys2Proof.Machine
end

section
/-! PROOFS. The commands and replies that start a frame, and the entries of the sequencer on receive-complete and
send-complete that no statement before them needed (spec 43_protocol.md R192 to R229). Each rule is an equation for
the block that is ready; the statements put these together. -/

namespace Sys2Proof.Machine

open Sys2Proof

/-! ## Replies -/

/-- Where a reply can be sent, one of up to 16 payload bytes starts its frame (R222). -/
theorem reply_of_replyReady {s : State} (k : ReplyKind) {payload : List Byte} (st : ProtoState) (h : replyReady s)
    (hlen : payload.length ≤ 16) :
    reply k payload st s = .next (replyStarted (encodeD2H s.params k payload) st s) := by
  obtain ⟨htx, hrx, hsize⟩ := h
  exact reply_eq_next.2 ⟨⟨htx, hrx⟩, by omega, rfl⟩

/-- Where a reply can be sent, a REPLY_QUAT starts with the conversions of `Q_OUT` (R228). -/
theorem sendQuat_of_replyReady {s : State} (h : replyReady s) :
    sendQuat s = .next (replyStarted (encodeD2H s.params .quat (quatPayload s)) .replyQuaternion s) :=
  reply_of_replyReady .quat _ h (quatPayload_length s).le

/-- Where a reply can be sent, a REPLY_COMPASS_ACC starts with the level held (R229). -/
theorem sendCompassAcc_of_replyReady {s : State} (h : replyReady s) :
    sendCompassAcc s = .next (replyStarted [s.params.sentinel, s.params.ops.replyCompassAcc, s.compassAcc.setWidth 8]
      .replyCompassAccuracy s) :=
  reply_of_replyReady .compassAcc _ h (by simp)

/-- The payload of REPLY_QUAT, its four words one after the other (R94). -/
theorem quatPayload_eq (s : State) :
    quatPayload s =
      wordBytes s.params.wordOrder (toFloatW s.qOut.w) ++ wordBytes s.params.wordOrder (toFloatW s.qOut.x) ++
        wordBytes s.params.wordOrder (toFloatW s.qOut.y) ++ wordBytes s.params.wordOrder (toFloatW s.qOut.z) := rfl

/-- In little-endian order a word goes least significant byte first (R62). -/
theorem wordBytes_little_append (b0 b1 b2 b3 : Byte) :
    wordBytes .little (b3 ++ b2 ++ b1 ++ b0) = [b0, b1, b2, b3] := by
  obtain ⟨h0, h1, h2, h3⟩ := extractLsb'_append_four b3 b2 b1 b0
  exact congr (congrArg _ h0) (congr (congrArg _ h1) (congr (congrArg _ h2) (congrArg (fun b => [b]) h3)))

/-- The inverse of R142 negates the vector part as words. -/
theorem qinvQ_eq (a : Quat) : qinvQ a = ⟨a.w, -a.x, -a.y, -a.z⟩ := by
  simp only [qinvQ, negW_eq]

/-! ## Storage -/

/-- A storage write takes effect unless its result is a failure (R71, notes/assumptions/6.md). -/
theorem storTakes_eq_false_iff {s : State} : storTakes s = false ↔ s.storResults.head? = some false := by
  unfold storTakes
  cases s.storResults <;> simp

theorem storTakes_eq_true_iff {s : State} : storTakes s = true ↔ s.storResults.head? ≠ some false := by
  rw [ne_eq, ← storTakes_eq_false_iff, Bool.not_eq_false]

/-- A sign field as the stored byte (R67). -/
theorem signByte_eq (b : Bool) : signByte b = (BitVec.ofBool b).setWidth 8 := by
  cases b <;> rfl

/-! ## SET_AXIS (R91, R207) -/

/-- The derived Z index is a difference of indices modulo 4 (R207; 92_eei_decisions.md D9). -/
theorem axisOfByte_fields (unused zs ys xs : Bool) (yi xi : BitVec 2) :
    axisOfByte (BitVec.ofBool unused ++ BitVec.ofBool zs ++ yi ++ BitVec.ofBool ys ++ xi ++ BitVec.ofBool xs) =
      ⟨xs, xi, ys, yi, zs, 3#2 - xi - yi⟩ := by
  revert unused zs ys xs yi xi
  decide

/-! ## The entry on receive-complete, one equation per state -/

/-- The byte received in `WaitId` goes to the address filter (R196). -/
theorem rxdone_of_waitId {s : State} {b : Byte} {bs : List Byte} (hp : s.proto = .waitId) (hbuf : s.rxBuf = b :: bs) :
    rxdone s = addressFilter b s := by
  rw [rxdone, hp]
  exact withRxByte_of_cons _ hbuf

/-- The byte received in `WaitCommand` is dispatched (R198). -/
theorem rxdone_of_waitCommand {s : State} {b : Byte} {bs : List Byte} (hp : s.proto = .waitCommand)
    (hbuf : s.rxBuf = b :: bs) : rxdone s = dispatch b s := by
  rw [rxdone, hp]
  exact withRxByte_of_cons _ hbuf

/-- The byte received in `WaitAxis` is the operand of SET_AXIS (R207). -/
theorem rxdone_of_waitAxis {s : State} {b : Byte} {bs : List Byte} (hp : s.proto = .waitAxis)
    (hbuf : s.rxBuf = b :: bs) : rxdone s = exec (.setAxis b) s := by
  rw [rxdone, hp]
  exact withRxByte_of_cons _ hbuf

/-- The byte received in `WaitNumPages` is the operand of PROGRAM (R213). -/
theorem rxdone_of_waitNumPages {s : State} {b : Byte} {bs : List Byte} (hp : s.proto = .waitNumPages)
    (hbuf : s.rxBuf = b :: bs) : rxdone s = exec (.program b) s := by
  rw [rxdone, hp]
  exact withRxByte_of_cons _ hbuf

/-- The 64 bytes received in `Flashing` are stored as a page and acknowledged (R219). -/
theorem rxdone_of_flashing {s : State} {page bs : List Byte} (hp : s.proto = .flashing) (hbuf : s.rxBuf = page ++ bs)
    (hlen : page.length = 64) : rxdone s = ack .flashing (storProgram s.pageIdx page s) := by
  rw [rxdone, hp]
  change pageReceived s = _
  rw [pageReceived, pageSize, ← hlen, withRxBytes_of_append _ hbuf]

/-! ## The address filter (R196) -/

theorem addressFilter_handshake {s : State} {b : Byte} (h : b = s.params.broadcastId ∧ s.fwDone = false) :
    addressFilter b s = .next (setProto .downloadingFirmware s) :=
  if_pos h

theorem addressFilter_own {s : State} {b : Byte} (h : ¬(b = s.params.broadcastId ∧ s.fwDone = false))
    (hb : b = s.devId) : addressFilter b s = arm 1 (setProto .waitCommand s) := by
  rw [addressFilter, if_neg h, if_pos hb]

theorem addressFilter_other {s : State} {b : Byte} (h : ¬(b = s.params.broadcastId ∧ s.fwDone = false))
    (hb : b ≠ s.devId) : addressFilter b s = header b s := by
  rw [addressFilter, if_neg h, if_neg hb]

/-! ## The dispatch (R198, R218) -/

/-- The opcode byte of a command without payload executes it. -/
theorem dispatch_executes {s : State} {c : Byte} {k : Command} {i : Instr} (hk : commandOf s.params c = some k)
    (hi : decodePayload s.params k [] = .ok i) : dispatch c s = exec i s := by
  rw [dispatch, hk]
  cases k <;> cases hi <;> rfl

/-- The opcode byte of a command with payload arms the receive of that payload. -/
theorem dispatch_arms {s : State} {c : Byte} {k : Command} (hk : commandOf s.params c = some k)
    (hlen : k.payloadLen ≠ 0) : dispatch c s = arm k.payloadLen (setProto (commandState k) s) := by
  rw [dispatch, hk]
  cases k
  case setUnityOffset | setAxis | setId | program => rfl
  all_goals exact absurd rfl hlen

/-- Any other byte returns to the header hunt. -/
theorem dispatch_unknown {s : State} {c : Byte} (hk : commandOf s.params c = none) :
    dispatch c s = arm 1 (setProto .waitHeader s) := by
  rw [dispatch, hk]
  rfl

/-- A byte that is no command's opcode byte names no command (R89). -/
theorem commandOf_eq_none {p : Params} {c : Byte} (h : ∀ k : Command, c ≠ commandByte p k) : commandOf p c = none := by
  cases hk : commandOf p c with
  | none => rfl
  | some k => exact absurd (commandOf_eq_some hk) (h k)

/-- A payload length is that of a receive (R86, R166). -/
theorem payloadLen_le (k : Command) : k.payloadLen ≤ 64 := by
  cases k <;> decide

/-! ## PROGRAM and the page loop (R213, R214, R220) -/

theorem execProgram_zero (s : State) :
    exec (.program 0#8) s = .next (resetBlock { s with rebootReqs := s.rebootReqs + 1 }) :=
  rfl

theorem execProgram_of_ne {n : Byte} (s : State) (h : n ≠ 0#8) :
    exec (.program n) s = arm 64 (setProto .flashing { s with pages := n, pageIdx := 0#8 }) :=
  if_neg h

theorem pageAcknowledged_last {s : State} (h : s.pageIdx + 1#8 = s.pages) :
    pageAcknowledged s = .next (reboot { s with pageIdx := s.pageIdx + 1#8 }) :=
  if_pos h

theorem pageAcknowledged_more {s : State} (h : s.pageIdx + 1#8 ≠ s.pages) :
    pageAcknowledged s = arm 64 { s with pageIdx := s.pageIdx + 1#8 } :=
  if_neg h

/-- In `Flashing` a page is armed where a receive can be (R220). -/
theorem arm_page_of_armReady {s : State} (h : armReady s) (hp : s.proto = .flashing) :
    arm 64 s = .next (receiveArmed 64#7 .flashing s) := by
  have same : setProto .flashing s = s := by rw [setProto, ← hp]
  rw [← arm_of_armReady .flashing h (by decide) le_rfl, same]

/-! ## The statements on commands and replies -/

/-- Settles O24: each reply is one frame built from the registers and handed to `Send`. -/
theorem replyInstructionsStartTheirFrames : Obligations.ReplyInstructionsStartTheirFrames := by
  intro s h
  exact ⟨ack_of_replyReady .replyAck h, sendQuat_of_replyReady h, sendCompassAcc_of_replyReady h⟩

/-- Settles O25: READ_QUAT is REPLY_QUAT, and the byte order is that of its words. -/
theorem readQuatSendsTheOutputAsFloats : Obligations.ReadQuatSendsTheOutputAsFloats := by
  intro s h
  constructor
  · rw [exec_readQuat, sendQuat_of_replyReady h, encodeD2H, quatPayload_eq]
    rfl
  · intro horder b0 b1 b2 b3
    rw [horder]
    exact wordBytes_little_append b0 b1 b2 b3

/-- Settles O26: the inverse of the sample is stored, then acknowledged. -/
theorem setChipOffsetCapturesTheInverseSample : Obligations.SetChipOffsetCapturesTheInverseSample := by
  intro s h
  rw [exec_setChipOffset, qinvQ_eq]
  exact ack_of_replyReady .replyAck h

/-- Settles O28: the fields of the byte are stored, then acknowledged. -/
theorem setAxisUnpacksTheFieldsAndDerivesZ : Obligations.SetAxisUnpacksTheFieldsAndDerivesZ := by
  intro s unused zs ys xs yi xi h
  rw [exec_setAxis, axisOfByte_fields]
  exact ack_of_replyReady .replyAck h

/-- Settles O30, split by whether the collaborator fails the write. -/
theorem flashStoresIdentityAndAxis : Obligations.FlashStoresIdentityAndAxis := by
  intro s h
  have written : exec .flash s =
      .next (replyStarted (ackFrame s.params) .replyAck (storWrite (currentRecord s) s)) := by
    rw [exec_flash]
    exact ack_of_replyReady .replyAck h
  rw [written, storWrite, currentRecord]
  by_cases hf : s.storResults.head? = some false
  · simp only [storTakes_eq_false_iff.2 hf, hf, if_true, Bool.false_eq_true, if_false]
  · simp only [storTakes_eq_true_iff.2 hf, hf, if_true, if_false, signByte_eq]
    rfl

/-- Settles O31: the two branches of PROGRAM. -/
theorem programStartsThePageLoop : Obligations.ProgramStartsThePageLoop := by
  constructor
  · intro n s h hn
    rw [execProgram_of_ne s hn]
    exact arm_of_armReady .flashing h (by decide) le_rfl
  · exact execProgram_zero

/-- Settles O32: the level goes into the frame before it is cleared. -/
theorem readCompassAccSendsAndClears : Obligations.ReadCompassAccSendsAndClears := by
  intro s h
  rw [exec_readCompassAcc, sendCompassAcc_of_replyReady h, andThen_next]

/-! ## The statements on the sequencer -/

/-- Settles O35, branch by branch of the address filter. -/
theorem addressFilterTakesThreeBranches : Obligations.AddressFilterTakesThreeBranches := by
  intro s b bs h hp hbuf
  rw [rxdone_of_waitId hp hbuf]
  refine ⟨fun hb => ⟨addressFilter_handshake hb, rfl⟩, fun hb hid => ?_, fun hb hid => ?_⟩
  · rw [addressFilter_own hb hid]
    exact arm_of_armReady .waitCommand h le_rfl (by decide)
  · rw [addressFilter_other hb hid, header_of_armReady b h, headerState]

/-- Settles O36: distinct opcode bytes name one command each, and the dispatch executes it or arms its payload. -/
theorem opcodeByteIsDispatched : Obligations.OpcodeByteIsDispatched := by
  intro s c bs h hok hp hbuf
  have names : ∀ k : Command, c = commandByte s.params k → commandOf s.params c = some k := by
    intro k hc
    rw [hc, commandOf_commandByte hok]
  have executes : ∀ (k : Command) (i : Instr), decodePayload s.params k [] = .ok i → c = commandByte s.params k →
      rxdone s = exec i s := by
    intro k i hi hc
    rw [rxdone_of_waitCommand hp hbuf, dispatch_executes (names k hc) hi]
  have arms : ∀ k : Command, k.payloadLen ≠ 0 → c = commandByte s.params k →
      rxdone s = .next (receiveArmed (BitVec.ofNat 7 k.payloadLen) (commandState k) s) := by
    intro k hlen hc
    rw [rxdone_of_waitCommand hp hbuf, dispatch_arms (names k hc) hlen]
    exact arm_of_armReady _ h (Nat.pos_of_ne_zero hlen) (payloadLen_le k)
  refine ⟨executes .ping _ rfl, executes .readQuat _ rfl, executes .setChipOffset _ rfl, executes .flash _ rfl,
    executes .readCompassAcc _ rfl, arms .setUnityOffset (by decide), arms .setAxis (by decide),
    arms .setId (by decide), arms .program (by decide), fun hc => ?_⟩
  rw [rxdone_of_waitCommand hp hbuf, dispatch_unknown (commandOf_eq_none hc)]
  exact arm_of_armReady .waitHeader h le_rfl (by decide)

/-- Settles O38: the page goes to the 64 keys from the key of the page on, or nowhere where the write fails. -/
theorem pageIsStoredAndAcknowledged : Obligations.PageIsStoredAndAcknowledged := by
  intro s page bs h hp hbuf hlen
  refine ⟨(storProgram s.pageIdx page s).progMem, ?_, fun hf => ?_, fun hf => ?_⟩
  · rw [rxdone_of_flashing hp hbuf hlen]
    exact ack_of_replyReady .flashing h
  · rw [storProgram_progMem, storTakes_eq_false_iff.2 hf]
    rfl
  · rw [storProgram_progMem, if_pos (storTakes_eq_true_iff.2 hf)]
    refine ⟨fun j hj => memRead_memWriteBytes_inside page _ (hlen ▸ hj), fun k hk => ?_⟩
    exact memRead_memWriteBytes_outside page _ (hlen ▸ hk)

/-- Settles O39, split by whether the page acknowledged is the last one. -/
theorem acknowledgedPageCountsOrReboots : Obligations.AcknowledgedPageCountsOrReboots := by
  intro s hp
  rw [txdone_of_flashing hp]
  refine ⟨fun hlast => pageAcknowledged_last hlast, fun hmore h => ?_⟩
  rw [pageAcknowledged_more hmore]
  exact arm_page_of_armReady (s := { s with pageIdx := s.pageIdx + 1#8 }) h hp

end Sys2Proof.Machine
end

section
/-! PROOFS. The port transactions one by one (spec 42_codec.md R167 to R174, 43_protocol.md R224 to R227,
70_reset_and_hazards.md R270): the transmitter, the turnaround, the sensor events, RESET, and how the step that
completes a receive runs the instruction received. -/

namespace Sys2Proof.Machine

open Sys2Proof

/-! ## The transmitter (R167, R169) -/

/-- With nothing to send `TX_READY` is ignored. -/
theorem txReadyEvent_idle {s : State} (h : s.txActive = false ∨ s.txDrain = true) : txReadyEvent s = .next s := by
  have idle : txPending s = false := by rcases h with h | h <;> simp [txPending, h]
  simp [txReadyEvent, idle]

/-- With a pad owed `TX_READY` emits it. -/
theorem txReadyEvent_pad {s : State} (ha : s.txActive = true) (hd : s.txDrain = false) (hp : s.txPad = true) :
    txReadyEvent s = .next (padSent s) := by
  simp [txReadyEvent, txPending, ha, hd, hp]

/-- With no pad owed `TX_READY` emits the next byte of the frame. -/
theorem txReadyEvent_byte {s : State} {b : Byte} (ha : s.txActive = true) (hd : s.txDrain = false)
    (hp : s.txPad = false) (hb : s.txBuf[s.txCnt.toNat]? = some b) : txReadyEvent s = .next (byteSent b s) := by
  simp [txReadyEvent, txPending, ha, hd, hp, hb]

/-- The drain flag, spelt out (R167). -/
theorem nextTxDrain_eq (cnt len : BitVec 5) (pad : Bool) :
    nextTxDrain cnt len pad = decide (cnt = len ∧ pad = false) := by
  cases pad <;> simp [nextTxDrain, beq_eq_decide]

/-- The state after a pad, its flags spelt out (R167). -/
theorem padSent_eq (s : State) :
    padSent s = { s with
      wireOut := s.wireOut ++ [s.params.pad], txPad := false, txDrain := decide (s.txCnt = s.txLen) } := by
  simp [padSent, nextTxDrain_eq]

/-- The state after a byte of the frame, its flags spelt out (R167). -/
theorem byteSent_eq (b : Byte) (s : State) :
    byteSent b s = { s with
      wireOut := s.wireOut ++ [b], txCnt := s.txCnt + 1#5, txPad := decide (b = s.params.sentinel),
      txDrain := decide (s.txCnt + 1#5 = s.txLen ∧ b ≠ s.params.sentinel) } := by
  simp [byteSent, nextTxDrain_eq, nextTxPad, beq_eq_decide]

/-- `TX_IDLE` before the frame is out is ignored. -/
theorem txIdleEvent_of_not_drain {s : State} (h : s.txDrain = false) : txIdleEvent s = .next s := by
  simp [txIdleEvent, h]

/-- `TX_IDLE` after the whole frame is the turnaround and send-complete. -/
theorem txIdleEvent_of_drain {s : State} (h : s.txDrain = true) : txIdleEvent s = txdone (turnedAround s) := by
  simp [txIdleEvent, h]

/-! ## The receiver -/

/-- A byte outside a receive is lost (R172). -/
theorem rxByteEvent_of_not_listening {s : State} (b : Byte) (h : listening s = false) : rxByteEvent b s = .next s := by
  simp [rxByteEvent, h]

/-- The step of the byte that completes a receive is the entry on receive-complete (R174, R192). -/
theorem step_completes {s : State} {b : Byte} {rest : List Event} (hev : s.events = .rxByte b :: rest)
    (h : completesReceive s) : step s = rxdone (completed b { s with events := rest }) := by
  obtain ⟨hdir, harmed, hesc, hroom, hlast⟩ := h
  calc step s = rxByteEvent b { s with events := rest } := step_rxByte hev
    _ = dataByte b { s with events := rest } := rxByteEvent_of_not_esc b (listening_eq_true.2 ⟨hdir, harmed⟩) hesc
    _ = _ := dataByte_of_last b hroom hlast

/-! ## The payload received is the instruction's (R198 to R214) -/

/-- A quaternion payload has sixteen bytes (R90). -/
theorem length_of_quatOfBytes {o : WordOrder} {bs : List Byte} {q : Quat} (h : quatOfBytes o bs = some q) :
    bs.length = 16 := by
  unfold quatOfBytes at h
  split at h
  · rfl
  · cases h

/-- An instruction with a one-byte payload is that of the byte (R91, R92). -/
theorem withPayloadByte_eq_ok {f : Byte → Instr} {bs : List Byte} {i : Instr} (h : withPayloadByte f bs = .ok i) :
    ∃ b, bs = [b] ∧ i = f b := by
  unfold withPayloadByte at h
  split at h
  · rename_i b
    exact ⟨b, rfl, (Decoded.ok.inj h).symm⟩
  · cases h

/-- SET_UNITY_OFFSET is that of the quaternion its payload holds (R90). -/
theorem withPayloadQuat_eq_ok {o : WordOrder} {f : Quat → Instr} {bs : List Byte} {i : Instr}
    (h : withPayloadQuat o f bs = .ok i) : ∃ q, quatOfBytes o bs = some q ∧ i = f q := by
  unfold withPayloadQuat at h
  split at h
  · rename_i q hq
    exact ⟨q, hq, (Decoded.ok.inj h).symm⟩
  · cases h

/-- On completion of a payload the instruction that the payload decodes to is executed. -/
theorem rxdone_executes {s : State} {k : Command} {i : Instr} {payload bs : List Byte} (hp : s.proto = commandState k)
    (hlen : k.payloadLen ≠ 0) (hbuf : s.rxBuf = payload ++ bs) (hi : decodePayload s.params k payload = .ok i) :
    rxdone s = exec i s := by
  cases k
  case setUnityOffset =>
    obtain ⟨q, hq, rfl⟩ := withPayloadQuat_eq_ok hi
    exact rxdone_of_waitUnityOffset hp hbuf (length_of_quatOfBytes hq) hq
  case setAxis =>
    obtain ⟨b, rfl, rfl⟩ := withPayloadByte_eq_ok hi
    exact rxdone_of_waitAxis hp hbuf
  case setId =>
    obtain ⟨b, rfl, rfl⟩ := withPayloadByte_eq_ok hi
    exact rxdone_of_waitNewId hp hbuf
  case program =>
    obtain ⟨b, rfl, rfl⟩ := withPayloadByte_eq_ok hi
    exact rxdone_of_waitNumPages hp hbuf
  all_goals exact absurd rfl hlen

/-- An opcode byte and its payload decode to the instruction of the command it names (R89). -/
theorem decodeCommand_eq_ok {p : Params} {op : Byte} {payload : List Byte} {i : Instr}
    (h : decodeCommand p op payload = .ok i) :
    ∃ k, commandOf p op = some k ∧ decodePayload p k payload = .ok i := by
  unfold decodeCommand at h
  split at h
  · exact ⟨_, ‹_›, h⟩
  · cases h

/-- A one-byte receive puts its byte at the front of the buffer (R174). -/
theorem exists_rxBuf_completed {s : State} (b : Byte) (hcnt : s.rxCnt = 0#7) (hbuf : s.rxBuf ≠ []) :
    ∃ bs, (completed b s).rxBuf = b :: bs := by
  obtain ⟨c, bs, hcons⟩ := List.exists_cons_of_ne_nil hbuf
  exact ⟨bs, by simp [hcnt, hcons]⟩

/-! ## The record at RESET (R68, R270) -/

@[simp] theorem byteSign_signByte (b : Bool) : byteSign (signByte b) = b := by
  cases b <;> rfl

@[simp] theorem byteField_fieldByte (v : BitVec 2) : byteField (fieldByte v) = v := by
  revert v
  decide

/-- Loading the record that FLASH stores gives the axis fields back (R212). -/
theorem recordAxis_currentRecord (s : State) : recordAxis (currentRecord s) = s.axis := by
  simp [recordAxis, currentRecord]

/-! ## The statements on single port transactions -/

/-- Settles O42: either flag alone makes the receiver deaf. -/
theorem byteOutsideAReceiveIsLost : Obligations.ByteOutsideAReceiveIsLost := by
  intro s b rest hev h
  rw [step_rxByte hev]
  refine rxByteEvent_of_not_listening b ?_
  rcases h with h | h <;> simp [listening, h]

/-- Settles O43, case by case of the rule. -/
theorem txReadyEmitsOneByteOrNothing : Obligations.TxReadyEmitsOneByteOrNothing := by
  intro s rest hev
  have taken : step s = txReadyEvent { s with events := rest } := step_event hev
  refine ⟨fun h => ?_, fun ha hd hp => ?_, fun b ha hd hp hb => ?_⟩
  · rw [taken]
    exact txReadyEvent_idle h
  · calc step s = txReadyEvent { s with events := rest } := taken
      _ = .next (padSent { s with events := rest }) := txReadyEvent_pad ha hd hp
      _ = _ := congrArg Host.Outcome.next (padSent_eq _)
  · calc step s = txReadyEvent { s with events := rest } := taken
      _ = .next (byteSent b { s with events := rest }) := txReadyEvent_byte ha hd hp hb
      _ = _ := congrArg Host.Outcome.next (byteSent_eq b _)

/-- Settles O44: past the turnaround the cases are those of send-complete. -/
theorem txIdleTurnsTheLinkAround : Obligations.TxIdleTurnsTheLinkAround := by
  intro s rest hev
  have taken : step s = txIdleEvent { s with events := rest } := step_event hev
  have drained : s.txDrain = true → step s = txdone (turnedAround { s with events := rest }) := by
    intro hd
    rw [taken]
    exact txIdleEvent_of_drain hd
  have ready : s.rxArmed = false → 64 ≤ s.params.rxBufSize → armReady (turnedAround { s with events := rest }) :=
    fun hrx hsize => ⟨rfl, hrx, rfl, hsize⟩
  refine ⟨fun hd => ?_, drained, fun hd hrx hsize hp => ?_, fun hd hrx hsize hp hmore => ?_, fun hd hp hlast => ?_⟩
  · rw [taken]
    exact txIdleEvent_of_not_drain hd
  · rw [drained hd, txdone_of_ne_flashing (s := turnedAround { s with events := rest }) hp]
    exact arm_of_armReady .waitHeader (ready hrx hsize) le_rfl (by decide)
  · rw [drained hd, txdone_of_flashing (s := turnedAround { s with events := rest }) hp,
      pageAcknowledged_more (s := turnedAround { s with events := rest }) hmore]
    exact arm_page_of_armReady (s := { turnedAround { s with events := rest } with pageIdx := s.pageIdx + 1#8 })
      (ready hrx hsize) hp
  · rw [drained hd, txdone_of_flashing (s := turnedAround { s with events := rest }) hp]
    exact pageAcknowledged_last hlast

/-- Settles O48: the event is the one write of both registers. -/
theorem sampleRunsThePipelineOnce : Obligations.SampleRunsThePipelineOnce := by
  intro q s rest hev
  exact step_event hev

/-- Settles O49: the level is compared modulo 4, as the two bits that are kept. -/
theorem compassKeepsTheMaximum : Obligations.CompassKeepsTheMaximum := by
  intro level s rest hev
  refine ⟨compassEvent level { s with events := rest }, step_event hev, ?_, rfl⟩
  have low : (BitVec.ofNat 2 level).toNat = level % 4 := BitVec.toNat_ofNat level 2
  rw [compassEvent_compassAcc]
  split <;> rename_i hlt <;> simp only [BitVec.lt_def, low] at hlt
  · rw [low]
    omega
  · exact (max_eq_left (not_lt.1 hlt)).symm

/-- Settles O50, split by whether the block is in the firmware download. -/
theorem firmwareDoneEndsTheDetour : Obligations.FirmwareDoneEndsTheDetour := by
  intro s rest hev
  have taken : step s = fwDoneEvent { s with events := rest } := step_event hev
  refine ⟨fun hp => ?_, fun hp htx hrx hsize => ?_⟩
  · rw [taken]
    exact if_neg hp
  · have armed_header : arm 1 (firmwareDone { s with events := rest }) =
        .next (armed 1 (firmwareDone { s with events := rest })) :=
      arm_of_ready htx hrx rfl le_rfl (le_trans (by decide) hsize)
    rw [taken, fwDoneEvent, if_pos (by exact hp), armed_header]
    rfl

/-- A field is loaded from the record as the low bits of its byte (R68). -/
theorem byteField_eq (b : Byte) : byteField b = b.setWidth 2 := by
  rw [byteField, BitVec.setWidth_eq_extractLsb' (by decide)]

/-- Settles O51: the event RESET with the fields of the record spelt out. -/
theorem resetLoadsTheRecordAndInitialises : Obligations.ResetLoadsTheRecordAndInitialises := by
  intro s rest hev
  have loaded : recordAxis s.record = ⟨s.record.xs.getLsbD 0, s.record.xi.setWidth 2, s.record.ys.getLsbD 0,
      s.record.yi.setWidth 2, s.record.zs.getLsbD 0, s.record.zi.setWidth 2⟩ := by
    simp only [recordAxis, byteSign, byteField_eq]
  rw [← loaded]
  exact step_event hev

/-- Settles O52: RESET writes every other field from these ones, and the record FLASH stores gives both back. -/
theorem resetForgetsAllButStorageAndBuffers : Obligations.ResetForgetsAllButStorageAndBuffers := by
  constructor
  · intro s t hparams hrecord hprog hstor hrx htx hevents hwire hcp hreboot
    simp only [resetBlock, hparams, hrecord, hprog, hstor, hrx, htx, hevents, hwire, hcp, hreboot]
  · intro s t h htakes
    rw [exec_flash] at h
    obtain ⟨-, -, rfl⟩ := ack_eq_next.1 h
    have stored_record : (storWrite (currentRecord s) s).record = currentRecord s := by
      rw [storWrite_record, if_pos (storTakes_eq_true_iff.2 htakes)]
    constructor
    · rw [resetBlock_devId, setProto_record, sending_record, stored_record, currentRecord]
    · rw [resetBlock_axis, setProto_record, sending_record, stored_record, recordAxis_currentRecord]

/-- Settles O53: the CP event, the dispatch of an opcode byte, and the two kinds of completed payload. -/
theorem stepRunsTheDecodedInstruction : Obligations.StepRunsTheDecodedInstruction := by
  refine ⟨fun s r i rest hev hi => ?_, fun s b i rest hev hdir harmed hesc hcnt hlen hbuf hp hi => ?_,
    fun s b c i rest hev hdir harmed hesc hcnt hlen hbuf hp hi => ?_,
    fun s b i rest hev hdir harmed hesc hcnt hlen hbuf hp hi => ?_⟩
  · have decoded : decodeCreq r = .ok i := hi
    rw [step_event hev]
    change cpEvent r _ = _
    rw [cpEvent, decoded]
  · have completes : completesReceive s :=
      ⟨hdir, harmed, hesc, by simpa [hcnt] using List.length_pos_iff.2 hbuf, by rw [hcnt, hlen]; rfl⟩
    obtain ⟨k, hk, hpay⟩ := decodeCommand_eq_ok hi
    obtain ⟨bs, hfront⟩ := exists_rxBuf_completed (s := { s with events := rest }) b hcnt hbuf
    rw [step_completes hev completes, rxdone_of_waitCommand (s := completed b { s with events := rest }) hp hfront]
    exact dispatch_executes (s := completed b { s with events := rest }) hk hpay
  · have completes : completesReceive s :=
      ⟨hdir, harmed, hesc, by simpa [hcnt] using List.length_pos_iff.2 hbuf, by rw [hcnt, hlen]; rfl⟩
    obtain ⟨awaited, hpay⟩ : s.proto = commandState c ∧ c.payloadLen ≠ 0 := by
      rcases hp with ⟨hp, rfl⟩ | ⟨hp, rfl⟩ | ⟨hp, rfl⟩ <;> exact ⟨hp, by decide⟩
    obtain ⟨bs, hfront⟩ := exists_rxBuf_completed (s := { s with events := rest }) b hcnt hbuf
    rw [step_completes hev completes]
    exact rxdone_executes (s := completed b { s with events := rest }) (payload := [b]) awaited hpay hfront hi
  · have completes : completesReceive s :=
      ⟨hdir, harmed, hesc, by rw [hcnt]; exact hbuf, by rw [hcnt, hlen]; rfl⟩
    have received : (completed b { s with events := rest }).rxBuf = (s.rxBuf.take 15 ++ [b]) ++ s.rxBuf.drop 16 := by
      simp only [completed_rxBuf, hcnt]
      rw [List.set_eq_take_append_cons_drop, if_pos (by exact hbuf), List.append_assoc]
      rfl
    rw [step_completes hev completes]
    exact rxdone_executes (s := completed b { s with events := rest }) (k := .setUnityOffset) hp (by decide) received hi

/-- Settles O60: an empty list of events is the idle step. -/
theorem idleBlockKeepsItsState : Obligations.IdleBlockKeepsItsState := by
  intro s h
  exact step_idle h

end Sys2Proof.Machine
end

section
/-! PROOFS. The codec refines stuffing (spec 42_codec.md R163 to R174): each byte of a frame with the pad it owes is
one block of steps, in the transmitter and in the receiver, and a frame is such blocks one after the other. On the
receiving side they carry a hunting node through a whole command frame (43_protocol.md R192 to R214). -/

namespace Sys2Proof.Machine

open Sys2Proof

/-! ## Runs of several steps -/

/-- A run of one step is the step. -/
@[simp] theorem runSteps_one (s : State) : runSteps 1 s = step s := by
  change andThen (step s) .next = step s
  cases step s <;> rfl

/-- A run is split where its first part gives a next state. -/
theorem runSteps_add {m : Nat} {s t : State} (n : Nat) (h : runSteps m s = .next t) :
    runSteps (m + n) s = runSteps n t := by
  induction m generalizing s with
  | zero =>
    cases h
    rw [Nat.zero_add]
  | succ m ih =>
    obtain ⟨u, hu, ht⟩ := andThen_eq_next.1 h
    rw [Nat.add_right_comm]
    change andThen (step s) (runSteps (m + n)) = _
    rw [hu, andThen_next, ih ht]

/-! ## Stuffing, byte by byte (R83) -/

/-- What one byte becomes on the wire. -/
theorem stuff_singleton (p : Params) (b : Byte) : stuff p [b] = if b = p.sentinel then [b, p.pad] else [b] := rfl

/-- A sequence is stuffed byte by byte. -/
theorem stuff_cons (p : Params) (b : Byte) (bs : List Byte) : stuff p (b :: bs) = stuff p [b] ++ stuff p bs := by
  by_cases hb : b = p.sentinel
  · rw [stuff_singleton, if_pos hb, hb, stuff_sentinel]
    rfl
  · rw [stuff_singleton, if_neg hb, stuff_of_ne hb]
    rfl

/-! ## The transmitter (R167) -/

/-- A send from its byte at `cnt` on: what is out so far, the flag of a send that is done, and the events still to
come. -/
def sendingFrom (s : State) (out : List Byte) (cnt : BitVec 5) (drained : Bool) (evs : List Event) : State :=
  { s with wireOut := out, txCnt := cnt, txPad := false, txDrain := drained, events := evs }

/-- As many `TX_READY` events as one byte has on the wire emit it with the pad it owes. -/
theorem runSteps_send_byte {s : State} {out : List Byte} {cnt : BitVec 5} {b : Byte} (rest : List Event)
    (ha : s.txActive = true) (hb : s.txBuf[cnt.toNat]? = some b) :
    runSteps (stuff s.params [b]).length
      (sendingFrom s out cnt false (List.replicate (stuff s.params [b]).length .txReady ++ rest)) =
    .next (sendingFrom s (out ++ stuff s.params [b]) (cnt + 1#5) (nextTxDrain (cnt + 1#5) s.txLen false) rest) := by
  have first : ∀ evs, step (sendingFrom s out cnt false (.txReady :: evs)) =
      .next (byteSent b (sendingFrom s out cnt false evs)) := by
    intro evs
    rw [step_event rfl]
    exact txReadyEvent_byte (s := sendingFrom s out cnt false evs) ha rfl rfl hb
  rw [stuff_singleton]
  by_cases hs : b = s.params.sentinel
  · have second : step (byteSent b (sendingFrom s out cnt false (.txReady :: rest))) =
        .next (padSent (byteSent b (sendingFrom s out cnt false rest))) := by
      rw [step_event rfl]
      refine txReadyEvent_pad (s := byteSent b (sendingFrom s out cnt false rest)) ha ?_ ?_ <;>
        simp [byteSent_eq, sendingFrom, hs]
    rw [if_pos hs]
    change andThen (step (sendingFrom s out cnt false (.txReady :: .txReady :: rest))) (runSteps 1) = _
    rw [first, andThen_next, runSteps_one, second]
    simp [padSent, byteSent, sendingFrom]
  · have no_pad : nextTxPad s.params b = false := beq_eq_false_iff_ne.2 hs
    rw [if_neg hs]
    change runSteps 1 (sendingFrom s out cnt false (.txReady :: rest)) = _
    rw [runSteps_one, first]
    simp [byteSent, sendingFrom, no_pad]

/-- As many `TX_READY` events as the rest of a frame has on the wire emit it, and the send has drained. -/
theorem runSteps_send {s : State} (rest : List Event) (bs : List Byte) {out : List Byte} {cnt : BitVec 5}
    {tail : List Byte} (ha : s.txActive = true) (hne : bs ≠ []) (hbuf : s.txBuf.drop cnt.toNat = bs ++ tail)
    (hlen : cnt.toNat + bs.length = s.txLen.toNat) :
    runSteps (stuff s.params bs).length
      (sendingFrom s out cnt false (List.replicate (stuff s.params bs).length .txReady ++ rest)) =
    .next (sendingFrom s (out ++ stuff s.params bs) s.txLen true rest) := by
  induction bs generalizing out cnt with
  | nil => exact absurd rfl hne
  | cons b bs ih =>
    have hb : s.txBuf[cnt.toNat]? = some b := by
      have := congrArg (·[0]?) hbuf
      simpa using this
    have next_cnt : (cnt + 1#5).toNat = cnt.toNat + 1 := by
      have := s.txLen.isLt
      rw [List.length_cons] at hlen
      rw [BitVec.toNat_add, BitVec.toNat_ofNat]
      omega
    have next_buf : s.txBuf.drop (cnt + 1#5).toNat = bs ++ tail := by
      have := congrArg (List.drop 1) hbuf
      rw [next_cnt]
      simpa [Nat.add_comm] using this
    have next_len : (cnt + 1#5).toNat + bs.length = s.txLen.toNat := by
      rw [next_cnt, ← hlen, List.length_cons]
      omega
    have one_byte := runSteps_send_byte (out := out) (List.replicate (stuff s.params bs).length .txReady ++ rest) ha hb
    rw [stuff_cons, List.length_append, List.replicate_add, List.append_assoc, runSteps_add _ one_byte,
      ← List.append_assoc]
    cases bs with
    | nil =>
      have last : cnt + 1#5 = s.txLen := BitVec.eq_of_toNat_eq next_len
      simp only [last, nextTxDrain, beq_self_eq_true, Bool.not_false, Bool.and_true, stuff_nil, List.append_nil]
      rfl
    | cons c bs =>
      have more : cnt + 1#5 ≠ s.txLen := by
        intro h
        rw [h, List.length_cons] at next_len
        omega
      rw [nextTxDrain, beq_eq_false_iff_ne.2 more, Bool.false_and]
      exact ih (List.cons_ne_nil c bs) next_buf next_len

/-- Settles O45: the send is at its first byte, and the whole frame is what is left of it. -/
theorem sendEmitsTheStuffedFrame : Obligations.SendEmitsTheStuffedFrame := by
  intro frame st s rest h1 h18
  have length_eq : (BitVec.ofNat 5 frame.length).toNat = frame.length := by
    rw [BitVec.toNat_ofNat]
    omega
  exact runSteps_send (s := replyStarted frame st s) rest frame (tail := s.txBuf.drop frame.length) rfl
    (List.length_pos_iff.1 h1) rfl ((Nat.zero_add _).trans length_eq.symm)

/-! ## The receiver (R172 to R174) -/

/-- A receive in which no pad is owed: its protocol state, buffer, count and length, and the events still to come. -/
def receiving (s : State) (st : ProtoState) (buf : List Byte) (cnt len : BitVec 7) (evs : List Event) : State :=
  { s with events := evs, proto := st, rxBuf := buf, rxCnt := cnt, rxLen := len, rxEsc := false, rxArmed := true }

/-- The state the entry on receive-complete starts from: all `len` bytes are in the buffer. -/
def received (s : State) (st : ProtoState) (buf : List Byte) (len : BitVec 7) (esc : Bool) (evs : List Event) : State :=
  { s with events := evs, proto := st, rxBuf := buf, rxCnt := len, rxLen := len, rxEsc := esc, rxArmed := false }

/-- A state in such a receive, with other events to come. -/
theorem receiving_self {s : State} (evs : List Event) (harmed : s.rxArmed = true) (hesc : s.rxEsc = false) :
    receiving s s.proto s.rxBuf s.rxCnt s.rxLen evs = { s with events := evs } := by
  rw [receiving, ← harmed, ← hesc]

/-- The step of a byte before the last one of its receive. -/
theorem step_receiving_more {s : State} {st : ProtoState} {buf : List Byte} {cnt len : BitVec 7} (b : Byte)
    (evs : List Event) (hdir : s.dir = .rx) (hroom : cnt.toNat < buf.length) (hmore : cnt + 1#7 ≠ len) :
    step (receiving s st buf cnt len (.rxByte b :: evs)) =
      .next { receiving s st (buf.set cnt.toNat b) (cnt + 1#7) len evs with rxEsc := decide (b = s.params.sentinel) } :=
  (dataByteIsStoredAndCounted (receiving s st buf cnt len (.rxByte b :: evs)) b evs rfl hdir rfl rfl hroom).1 hmore

/-- The step of the last byte of a receive. -/
theorem step_receiving_last {s : State} {st : ProtoState} {buf : List Byte} {cnt len : BitVec 7} (b : Byte)
    (evs : List Event) (hdir : s.dir = .rx) (hroom : cnt.toNat < buf.length) (hlast : cnt + 1#7 = len) :
    step (receiving s st buf cnt len (.rxByte b :: evs)) =
      rxdone (received s st (buf.set cnt.toNat b) len (decide (b = s.params.sentinel)) evs) := by
  subst hlast
  exact (dataByteIsStoredAndCounted (receiving s st buf cnt (cnt + 1#7) (.rxByte b :: evs)) b evs rfl hdir rfl rfl
    hroom).2 rfl

/-- The step of the byte of a one-byte receive. -/
theorem step_receiving_only {s : State} {st : ProtoState} {c : Byte} {bs : List Byte} (b : Byte) (evs : List Event)
    (hdir : s.dir = .rx) :
    step (receiving s st (c :: bs) 0#7 1#7 (.rxByte b :: evs)) =
      rxdone (received s st (b :: bs) 1#7 (decide (b = s.params.sentinel)) evs) :=
  step_receiving_last (buf := c :: bs) (cnt := 0#7) b evs hdir (Nat.zero_lt_succ _) rfl

/-- The step of a pad. -/
theorem step_pad {s : State} (b : Byte) (evs : List Event) (hev : s.events = .rxByte b :: evs) (hdir : s.dir = .rx)
    (harmed : s.rxArmed = true) (hesc : s.rxEsc = true) :
    step s = .next { s with events := evs, rxEsc := false } :=
  padPositionByteIsDiscarded s b evs hev hdir harmed hesc

/-- Hearing one stuffed byte before the last one of its receive stores it. -/
theorem runSteps_hear_byte {s : State} {st : ProtoState} {buf : List Byte} {cnt len : BitVec 7} (b : Byte)
    (rest : List Event) (hdir : s.dir = .rx) (hroom : cnt.toNat < buf.length) (hmore : cnt + 1#7 ≠ len) :
    runSteps (stuff s.params [b]).length (receiving s st buf cnt len ((stuff s.params [b]).map .rxByte ++ rest)) =
      .next (receiving s st (buf.set cnt.toNat b) (cnt + 1#7) len rest) := by
  rw [stuff_singleton]
  by_cases hs : b = s.params.sentinel
  · rw [if_pos hs]
    change andThen (step (receiving s st buf cnt len (.rxByte b :: .rxByte s.params.pad :: rest))) (runSteps 1) = _
    rw [step_receiving_more b _ hdir hroom hmore, andThen_next, runSteps_one]
    exact step_pad s.params.pad rest rfl hdir rfl (decide_eq_true hs)
  · rw [if_neg hs]
    change runSteps 1 (receiving s st buf cnt len (.rxByte b :: rest)) = _
    rw [runSteps_one, step_receiving_more b rest hdir hroom hmore, decide_eq_false hs]
    rfl

/-- Bytes written one after the other from an index on replace that part of the buffer. -/
theorem set_take_append_drop {buf : List Byte} {n : Nat} (b : Byte) (bs : List Byte) (h : n < buf.length) :
    (buf.set n b).take (n + 1) ++ bs ++ (buf.set n b).drop (n + 1 + bs.length) =
      buf.take n ++ (b :: bs) ++ buf.drop (n + (b :: bs).length) := by
  have front : (buf.set n b).take (n + 1) = buf.take n ++ [b] := by
    rw [List.take_add_one, List.take_set_of_le le_rfl, List.getElem?_set_self h]
    rfl
  have back : (buf.set n b).drop (n + 1 + bs.length) = buf.drop (n + (bs.length + 1)) := by
    rw [List.drop_set_of_lt (by omega), Nat.add_assoc, Nat.add_comm 1]
  rw [front, back, List.append_assoc (buf.take n) [b], List.singleton_append, List.length_cons]

/-- Hearing a stuffed sequence that leaves the receive unfinished stores the sequence. -/
theorem runSteps_hear {s : State} {st : ProtoState} {len : BitVec 7} (rest : List Event) (hdir : s.dir = .rx)
    (bs : List Byte) {buf : List Byte} {cnt : BitVec 7} (hmore : cnt.toNat + bs.length < len.toNat)
    (hroom : len.toNat ≤ buf.length) :
    runSteps (stuff s.params bs).length (receiving s st buf cnt len ((stuff s.params bs).map .rxByte ++ rest)) =
      .next (receiving s st (buf.take cnt.toNat ++ bs ++ buf.drop (cnt.toNat + bs.length))
        (cnt + BitVec.ofNat 7 bs.length) len rest) := by
  induction bs generalizing buf cnt with
  | nil => simp [stuff_nil, runSteps]
  | cons b bs ih =>
    rw [List.length_cons] at hmore
    have bound := len.isLt
    have room : cnt.toNat < buf.length := by omega
    have next_cnt : (cnt + 1#7).toNat = cnt.toNat + 1 := by
      rw [BitVec.toNat_add, BitVec.toNat_ofNat]
      omega
    have more : cnt + 1#7 ≠ len := by
      intro h
      rw [← h, next_cnt] at hmore
      omega
    have cnt_eq : cnt + 1#7 + BitVec.ofNat 7 bs.length = cnt + BitVec.ofNat 7 (b :: bs).length := by
      rw [List.length_cons, Nat.add_comm, BitVec.ofNat_add, BitVec.add_assoc]
    have one_byte := runSteps_hear_byte (st := st) b ((stuff s.params bs).map .rxByte ++ rest) hdir room more
    rw [stuff_cons, List.length_append, List.map_append, List.append_assoc, runSteps_add _ one_byte,
      ih (by omega) (by rw [List.length_set]; exact hroom), next_cnt, set_take_append_drop b bs room, cnt_eq]

/-- Settles O46: the state is in such a receive, and what it hears leaves the receive unfinished. -/
theorem receiverStoresTheUnstuffedBytes : Obligations.ReceiverStoresTheUnstuffedBytes := by
  intro S s rest hdir harmed hesc hmore hroom
  have heard := runSteps_hear (st := s.proto) rest hdir S hmore hroom
  rw [receiving_self _ harmed hesc] at heard
  rw [heard, receiving, ← harmed, ← hesc]

/-! ## A command frame (R192 to R214) -/

/-- Hearing the one stuffed byte of a receive that arms another one leads to the next receive; the pad comes in there
(92_eei_decisions.md D21). -/
theorem runSteps_hear_arming {s : State} {st st' : ProtoState} {c b : Byte} {bs : List Byte} {n : BitVec 7}
    (rest : List Event) (hdir : s.dir = .rx)
    (harms : ∀ esc evs, rxdone (received s st (b :: bs) 1#7 esc evs) =
      .next (receiveArmed n st' (received s st (b :: bs) 1#7 esc evs))) :
    runSteps (stuff s.params [b]).length (receiving s st (c :: bs) 0#7 1#7 ((stuff s.params [b]).map .rxByte ++ rest)) =
      .next (receiving s st' (b :: bs) 0#7 n rest) := by
  have last : ∀ evs, step (receiving s st (c :: bs) 0#7 1#7 (.rxByte b :: evs)) =
      .next (receiveArmed n st' (received s st (b :: bs) 1#7 (decide (b = s.params.sentinel)) evs)) := by
    intro evs
    rw [step_receiving_only b evs hdir]
    exact harms _ evs
  rw [stuff_singleton]
  by_cases hs : b = s.params.sentinel
  · rw [if_pos hs]
    change andThen (step (receiving s st (c :: bs) 0#7 1#7 (.rxByte b :: .rxByte s.params.pad :: rest)))
      (runSteps 1) = _
    rw [last, andThen_next, runSteps_one]
    exact step_pad s.params.pad rest rfl hdir rfl (decide_eq_true hs)
  · rw [if_neg hs]
    change runSteps 1 (receiving s st (c :: bs) 0#7 1#7 (.rxByte b :: rest)) = _
    rw [runSteps_one, last, decide_eq_false hs]
    rfl

/-- A command's payload has the length of its receive (R86). -/
theorem length_of_commandParts {p : Params} {i : Instr} {k : Command} {payload : List Byte}
    (h : commandParts p i = some (k, payload)) : payload.length = k.payloadLen := by
  cases i <;> cases h
  case setUnityOffset q => exact quatBytes_length _ q
  all_goals rfl

/-- A command frame is the sentinel, the address, the opcode byte and the payload (R81). -/
theorem encodeH2D_eq_some {p : Params} {id : Byte} {i : Instr} {bs : List Byte} (h : encodeH2D p id i = some bs) :
    ∃ k payload, commandParts p i = some (k, payload) ∧ bs = p.sentinel :: id :: commandByte p k :: payload := by
  obtain ⟨⟨k, payload⟩, hparts, rfl⟩ := Option.map_eq_some_iff.1 h
  exact ⟨k, payload, hparts, rfl⟩

/-- A node that hunts for a header and hears the stuffed sentinel and its own identity waits for the opcode byte. -/
theorem runSteps_hear_address {s : State} {c : Byte} {bs : List Byte} (rest : List Event) (hdir : s.dir = .rx)
    (htx : s.txActive = false) (hsize : 64 ≤ s.params.rxBufSize)
    (hshadow : ¬(s.devId = s.params.broadcastId ∧ s.fwDone = false)) :
    runSteps (stuff s.params [s.params.sentinel, s.devId]).length
      (receiving s .waitHeader (c :: bs) 0#7 1#7
        ((stuff s.params [s.params.sentinel, s.devId]).map .rxByte ++ rest)) =
      .next (receiving s .waitCommand (s.devId :: bs) 0#7 1#7 rest) := by
  have sentinel_arms : ∀ esc evs,
      let u := received s .waitHeader (s.params.sentinel :: bs) 1#7 esc evs
      rxdone u = .next (receiveArmed 1#7 .waitId u) := by
    intro esc evs u
    have ready : armReady u := ⟨htx, rfl, hdir, hsize⟩
    rw [rxdone_of_waitHeader (s := u) rfl rfl, header_of_armReady _ ready]
    exact congrArg (fun st => Host.Outcome.next (receiveArmed 1#7 st u)) (if_pos rfl)
  have address_arms : ∀ esc evs,
      let u := received s .waitId (s.devId :: bs) 1#7 esc evs
      rxdone u = .next (receiveArmed 1#7 .waitCommand u) := by
    intro esc evs u
    have ready : armReady u := ⟨htx, rfl, hdir, hsize⟩
    rw [rxdone_of_waitId (s := u) rfl rfl, addressFilter_own (s := u) hshadow rfl]
    exact arm_of_armReady .waitCommand ready le_rfl (by decide)
  rw [stuff_cons, List.length_append, List.map_append, List.append_assoc,
    runSteps_add _ (runSteps_hear_arming _ hdir sentinel_arms)]
  exact runSteps_hear_arming rest hdir address_arms

/-- A node that waits for the opcode byte and hears that of a command with payload waits for the payload. -/
theorem runSteps_hear_opcode {s : State} {k : Command} {c : Byte} {bs : List Byte} (rest : List Event)
    (hdir : s.dir = .rx) (htx : s.txActive = false) (hok : s.params.ok = true) (hlen : k.payloadLen ≠ 0) :
    runSteps (stuff s.params [commandByte s.params k]).length
      (receiving s .waitCommand (c :: bs) 0#7 1#7 ((stuff s.params [commandByte s.params k]).map .rxByte ++ rest)) =
      .next (receiving s (commandState k) (commandByte s.params k :: bs) 0#7 (BitVec.ofNat 7 k.payloadLen) rest) := by
  obtain ⟨-, -, hsize, -⟩ := params_ok_iff.1 hok
  have opcode_arms : ∀ esc evs,
      let u := received s .waitCommand (commandByte s.params k :: bs) 1#7 esc evs
      rxdone u = .next (receiveArmed (BitVec.ofNat 7 k.payloadLen) (commandState k) u) := by
    intro esc evs u
    have ready : armReady u := ⟨htx, rfl, hdir, hsize⟩
    rw [rxdone_of_waitCommand (s := u) rfl rfl, dispatch_arms (s := u) (commandOf_commandByte hok k) hlen]
    exact arm_of_armReady _ ready (Nat.pos_of_ne_zero hlen) (payloadLen_le k)
  exact runSteps_hear_arming rest hdir opcode_arms

/-- A node that waits for the opcode byte and hears that of a command without payload executes it. -/
theorem step_hear_opcode {s : State} {k : Command} {i : Instr} {c : Byte} {bs : List Byte} (rest : List Event)
    (hdir : s.dir = .rx) (hok : s.params.ok = true) (hi : decodePayload s.params k [] = .ok i) :
    step (receiving s .waitCommand (c :: bs) 0#7 1#7 (.rxByte (commandByte s.params k) :: rest)) =
      exec i (received s .waitCommand (commandByte s.params k :: bs) 1#7
        (decide (commandByte s.params k = s.params.sentinel)) rest) := by
  rw [step_receiving_only _ rest hdir, rxdone_of_waitCommand rfl rfl]
  exact dispatch_executes (s := received s .waitCommand _ 1#7 _ rest) (commandOf_commandByte hok k) hi

/-- A node that waits for a payload and hears it up to its last byte executes the command. -/
theorem runSteps_hear_payload {s : State} {k : Command} {i : Instr} {front : List Byte} {last : Byte} {buf : List Byte}
    (rest : List Event) (hdir : s.dir = .rx) (hlen : (front ++ [last]).length = k.payloadLen) (hroom : 64 ≤ buf.length)
    (hi : decodePayload s.params k (front ++ [last]) = .ok i) :
    ∃ buf' esc, runSteps ((stuff s.params front).length + 1)
        (receiving s (commandState k) buf 0#7 (BitVec.ofNat 7 k.payloadLen)
          ((stuff s.params front).map .rxByte ++ .rxByte last :: rest)) =
      exec i (received s (commandState k) buf' (BitVec.ofNat 7 k.payloadLen) esc rest) := by
  have len_le := payloadLen_le k
  have len_toNat : (BitVec.ofNat 7 k.payloadLen).toNat = k.payloadLen := by
    rw [BitVec.toNat_ofNat]
    omega
  rw [List.length_append, List.length_singleton] at hlen
  have cnt_toNat : (0#7 + BitVec.ofNat 7 front.length).toNat = front.length := by
    rw [BitVec.zero_add, BitVec.toNat_ofNat]
    omega
  have heard := runSteps_hear (st := commandState k) (buf := buf) (cnt := 0#7) (.rxByte last :: rest) hdir front
    (len := BitVec.ofNat 7 k.payloadLen) (by rw [len_toNat]; change 0 + _ < _; omega) (by rw [len_toNat]; omega)
  have last_cnt : 0#7 + BitVec.ofNat 7 front.length + 1#7 = BitVec.ofNat 7 k.payloadLen := by
    rw [BitVec.zero_add, ← BitVec.ofNat_add, hlen]
  rw [runSteps_add 1 heard, runSteps_one, step_receiving_last last rest hdir (by rw [cnt_toNat]; simp; omega) last_cnt]
  refine ⟨_, _, rxdone_executes rfl (by omega) (bs := buf.drop k.payloadLen) ?_ hi⟩
  change List.set _ _ _ = _
  rw [cnt_toNat]
  change (List.take 0 buf ++ front ++ buf.drop (0 + front.length)).set _ _ = _
  rw [List.take_zero, List.nil_append, Nat.zero_add, List.set_append_right _ _ le_rfl, Nat.sub_self,
    List.drop_eq_getElem_cons (by omega), List.set_cons_zero, hlen, List.append_assoc, List.singleton_append]

/-- Settles O47: the frame is heard block by block, up to the byte whose step executes the command. -/
theorem addressedFrameExecutesItsCommand : Obligations.AddressedFrameExecutesItsCommand := by
  intro s i front last rest hinv hp hesc hcnt hshadow henc
  obtain ⟨harmed, hlen⟩ := hinv.codec.waiting 1#7 (by rw [hp]; rfl)
  obtain ⟨hdir, -, -⟩ := hinv.codec.armed harmed
  have htx : s.txActive = false := by
    rw [← Bool.not_eq_true]
    exact fun htx => hinv.codec.notBoth ⟨harmed, htx⟩
  obtain ⟨-, -, hsize, -⟩ := params_ok_iff.1 hinv.params
  obtain ⟨c, bs, hbuf⟩ : ∃ c bs, s.rxBuf = c :: bs :=
    List.exists_cons_of_length_pos (by rw [hinv.rxBufSize]; omega)
  have room : 64 ≤ bs.length + 1 := by
    rw [← List.length_cons (a := c), ← hbuf, hinv.rxBufSize]
    exact hsize
  have hunting : ∀ evs, { s with events := evs } = receiving s .waitHeader (c :: bs) 0#7 1#7 evs := by
    intro evs
    rw [← hp, ← hbuf, ← hcnt, ← hlen, receiving_self evs harmed hesc]
  have address := fun evs => runSteps_hear_address (c := c) (bs := bs) evs hdir htx hsize hshadow
  obtain ⟨k, payload, hparts, hframe⟩ := encodeH2D_eq_some henc
  have hi := decodePayload_commandParts hparts
  have payload_len := length_of_commandParts hparts
  rcases List.eq_nil_or_concat' payload with rfl | ⟨init, b, rfl⟩
  · obtain ⟨rfl, hlast⟩ := List.append_inj' (s₂ := [s.params.sentinel, s.devId]) hframe rfl
    obtain rfl : last = commandByte s.params k := List.singleton_inj.1 hlast
    refine ⟨.waitCommand, commandByte s.params k :: bs, 1#7, 1#7,
      decide (commandByte s.params k = s.params.sentinel), ?_⟩
    rw [hunting, List.map_append, List.append_assoc, runSteps_add _ (address _), runSteps_one]
    exact step_hear_opcode rest hdir hinv.params hi
  · obtain ⟨rfl, hlast⟩ := List.append_inj' (s₂ := s.params.sentinel :: s.devId :: commandByte s.params k :: init)
      hframe rfl
    obtain rfl : last = b := List.singleton_inj.1 hlast
    have hne : k.payloadLen ≠ 0 := by
      rw [← payload_len, List.length_append]
      exact Nat.succ_ne_zero _
    obtain ⟨buf, esc, executed⟩ :=
      runSteps_hear_payload (buf := commandByte s.params k :: bs) rest hdir payload_len room hi
    have split : stuff s.params (s.params.sentinel :: s.devId :: commandByte s.params k :: init) =
        stuff s.params [s.params.sentinel, s.devId] ++
          (stuff s.params [commandByte s.params k] ++ stuff s.params init) := by
      rw [stuff_cons, stuff_cons _ s.devId, stuff_cons _ (commandByte s.params k),
        stuff_cons _ s.params.sentinel [s.devId], List.append_assoc]
    refine ⟨commandState k, buf, BitVec.ofNat 7 k.payloadLen, BitVec.ofNat 7 k.payloadLen, esc, ?_⟩
    rw [hunting, split]
    simp only [List.map_append, List.append_assoc, List.length_append, Nat.add_assoc]
    rw [runSteps_add _ (address _), runSteps_add _ (runSteps_hear_opcode _ hdir htx hinv.params hne)]
    exact executed

end Sys2Proof.Machine
end

section
/-! PROOFS. The invariants of spec 10_state.md R52 hold at reset and every step keeps them, and from a state that
keeps them a step is refused for a reserved request only (60_exceptions.md R240; 42_codec.md R176). Both are one
statement: the step answers a next state, and that state keeps the invariants. Its one idea is the state between two
transfers: the codec comes back to it before the sequencer calls `Send` or `Arm`, so their preconditions hold. -/

namespace Sys2Proof.Machine

open Sys2Proof

/-! ## What the invariants read -/

/-- The outcome is a next state that keeps the invariants, with the parameters of `s`. -/
def Continues (s : State) (o : Result) : Prop := ∃ t, o = .next t ∧ Inv t ∧ t.params = s.params

/-- The invariants read no configuration register, no storage result, no escape flag and no port record. -/
theorem inv_frame {s : State} {qRaw qChip qUnity qOut : Quat} {devId : Byte} {axis : Axis} {compassAcc : BitVec 2}
    {fwDone rxEsc : Bool} {record : ConfigRecord} {storResults : List Bool} {events : List Event} {wireOut : List Byte}
    {cpOut : List Quat} {rebootReqs : Nat} (h : Inv s) :
    Inv { s with
      qRaw := qRaw, qChip := qChip, qUnity := qUnity, qOut := qOut, devId := devId, axis := axis,
      compassAcc := compassAcc, fwDone := fwDone, rxEsc := rxEsc, record := record, storResults := storResults,
      events := events, wireOut := wireOut, cpOut := cpOut, rebootReqs := rebootReqs } := by
  obtain ⟨⟨armed, activeIffTx, active, notBoth, waiting, replying, flashing, downloading⟩, params, rxBufSize, txBufSize,
    drainActive, moreToSend, pageBelow, progMem⟩ := h
  exact ⟨⟨armed, activeIffTx, active, notBoth, waiting, replying, flashing, downloading⟩, params, rxBufSize, txBufSize,
    drainActive, moreToSend, pageBelow, progMem⟩

/-- The step takes its event without touching what the invariants read. -/
theorem Inv.taken {s : State} (h : Inv s) (rest : List Event) : Inv { s with events := rest } :=
  inv_frame h

/-! ## Between two transfers -/

/-- No transfer is in flight, the link is in receive mode, and what outlives a transfer is as the invariants ask. -/
def Resting (s : State) : Prop :=
  s.params.ok = true ∧ s.rxBuf.length = s.params.rxBufSize ∧ s.txBuf.length = s.params.txBufSize ∧
  s.txActive = false ∧ s.rxArmed = false ∧ s.dir = .rx ∧ s.txDrain = false ∧ Memory.wf s.progMem = true

/-- `Arm` outside the page loop leads to a state that keeps the invariants (R52 (d), R170). -/
theorem arm_continues {s : State} {st : ProtoState} {n : Nat} (h : Resting s)
    (hst : waitLength st = some (BitVec.ofNat 7 n)) (h1 : 1 ≤ n) (h64 : n ≤ 64) :
    Continues s (arm n (setProto st s)) := by
  obtain ⟨hok, hrx, htx, hactive, harmed, hdir, hdrain, hmem⟩ := h
  obtain ⟨-, -, hsize, -⟩ := params_ok_iff.1 hok
  refine ⟨armed n (setProto st s), arm_of_ready hactive harmed hdir h1 (h64.trans hsize), ?_, rfl⟩
  have len_toNat : (BitVec.ofNat 7 n).toNat = n := by
    rw [BitVec.toNat_ofNat]
    omega
  have not_sending : isReplyState st = false ∧ st ≠ .flashing ∧ st ≠ .downloadingFirmware := by
    cases st
    case replyAck | replyQuaternion | replyCompassAccuracy | flashing | downloadingFirmware => cases hst
    all_goals exact ⟨rfl, by decide, by decide⟩
  obtain ⟨not_reply, not_flashing, not_downloading⟩ := not_sending
  constructor
  case codec =>
    constructor
    case armed =>
      refine fun _ => ⟨hdir, ?_, ?_⟩ <;> simp only [BitVec.lt_def, BitVec.le_def, armed_rxLen, armed_rxCnt, len_toNat]
      · exact h1
      · exact h64
    case waiting =>
      intro m hm
      exact ⟨rfl, Option.some.inj (hst.symm.trans hm)⟩
    all_goals simp [hactive, hdir, not_reply, not_flashing, not_downloading]
  all_goals simp [hok, hrx, htx, hactive, hdrain, hmem, not_flashing]

/-- `Arm` in the page loop leads to a state that keeps the invariants (R52 (d), R215). -/
theorem arm_page_continues {s : State} (h : Resting s) (hp : s.proto = .flashing) (hpage : s.pageIdx < s.pages) :
    Continues s (arm 64 s) := by
  obtain ⟨hok, hrx, htx, hactive, harmed, hdir, hdrain, hmem⟩ := h
  obtain ⟨-, -, hsize, -⟩ := params_ok_iff.1 hok
  refine ⟨armed 64 s, arm_of_ready hactive harmed hdir (by decide) hsize, ?_, rfl⟩
  constructor
  case codec =>
    constructor
    case waiting =>
      intro m hm
      rw [armed_proto, hp] at hm
      cases hm
    all_goals simp [hactive, hdir, hp, isReplyState]
  all_goals simp [hok, hrx, htx, hactive, hdrain, hmem, hpage]

/-- A reply leads to a state that keeps the invariants (R52 (b), (d), R166). -/
theorem reply_continues {s : State} {st : ProtoState} (k : ReplyKind) {payload : List Byte} (h : Resting s)
    (hst : isReplyState st = true ∨ st = .flashing ∧ s.pageIdx < s.pages) (hlen : payload.length ≤ 16) :
    Continues s (reply k payload st s) := by
  obtain ⟨hok, hrx, htx, hactive, harmed, hdir, hdrain, hmem⟩ := h
  obtain ⟨-, -, -, hsize⟩ := params_ok_iff.1 hok
  refine ⟨_, reply_of_replyReady k st ⟨hactive, harmed, hsize⟩ hlen, ?_, rfl⟩
  have frame_len := encodeD2H_length s.params k payload
  have len_toNat : (BitVec.ofNat 5 (encodeD2H s.params k payload).length).toNat = payload.length + 2 := by
    rw [frame_len, BitVec.toNat_ofNat]
    omega
  have not_waiting : waitLength st = none ∧ st ≠ .downloadingFirmware := by
    rcases hst with hst | ⟨rfl, -⟩
    · cases st <;> cases hst <;> exact ⟨rfl, by decide⟩
    · exact ⟨rfl, by decide⟩
  obtain ⟨not_waiting, not_downloading⟩ := not_waiting
  constructor
  case codec =>
    constructor
    case active =>
      refine fun _ => ⟨harmed, ?_, ?_, by simp [replyStarted]⟩ <;>
        simp only [BitVec.le_def, replyStarted, len_toNat]
      · exact Nat.zero_le _
      · change _ ≤ 18
        omega
    all_goals simp [replyStarted, harmed, not_waiting, not_downloading]
  case moreToSend =>
    refine fun _ _ => .inl ?_
    simp only [BitVec.lt_def, replyStarted, len_toNat]
    exact Nat.succ_pos _
  case pageBelow =>
    rintro rfl
    rcases hst with hst | ⟨-, hpage⟩
    · cases hst
    · exact hpage
  all_goals simp [replyStarted, hok, hrx, hmem, frame_len, htx]
  omega

/-- RESET leads to a state that keeps the invariants, from any state whose storage and buffers are as they ask (R52,
R270). -/
theorem resetBlock_inv {s : State} (hok : s.params.ok = true) (hrx : s.rxBuf.length = s.params.rxBufSize)
    (htx : s.txBuf.length = s.params.txBufSize) (hmem : Memory.wf s.progMem = true) : Inv (resetBlock s) := by
  constructor
  case codec =>
    constructor
    case armed => exact fun _ => ⟨rfl, (by decide : 0#7 < 1#7), (by decide : 1#7 ≤ 64#7)⟩
    case waiting => exact fun n hn => ⟨rfl, Option.some.inj hn⟩
    all_goals simp [isReplyState]
  all_goals simp [hok, hrx, htx, hmem]

/-- A reboot between two transfers leads to a state that keeps the invariants (R221). -/
theorem reboot_continues {s : State} (h : Resting s) : Continues s (.next (reboot s)) := by
  obtain ⟨hok, hrx, htx, -, -, -, -, hmem⟩ := h
  exact ⟨_, rfl, resetBlock_inv (s := { s with rebootReqs := s.rebootReqs + 1 }) hok hrx htx hmem, rfl⟩

/-- The firmware detour begins in a state that keeps the invariants (R52 (d), R196). -/
theorem downloading_inv {s : State} (h : Resting s) : Inv (setProto .downloadingFirmware s) := by
  obtain ⟨hok, hrx, htx, hactive, harmed, hdir, hdrain, hmem⟩ := h
  constructor
  case codec =>
    constructor
    case waiting => exact fun n hn => nomatch hn
    all_goals simp [hactive, harmed, hdir, isReplyState]
  all_goals simp [hok, hrx, htx, hactive, hdrain, hmem]

/-! ## The commands and the sequencer -/

/-- An acknowledgement outside the page loop. -/
theorem ack_continues {s : State} (h : Resting s) : Continues s (ack .replyAck s) :=
  reply_continues .ack h (.inl rfl) (by simp)

/-- Every command, executed between two transfers, leads to a state that keeps the invariants. -/
theorem exec_continues {s : State} {i : Instr} (hi : i.format = .h2d) (h : Resting s) : Continues s (exec i s) := by
  cases i
  case ping => exact ack_continues h
  case readQuat => exact reply_continues .quat h (.inl rfl) (quatPayload_length s).le
  case setChipOffset => exact ack_continues (s := { s with qChip := qinvQ s.qRaw }) h
  case setUnityOffset q => exact ack_continues (s := { s with qUnity := q }) h
  case setAxis a => exact ack_continues (s := { s with axis := axisOfByte a }) h
  case setId n => exact ack_continues (s := { s with devId := n }) h
  case flash => exact ack_continues (s := storWrite (currentRecord s) s) h
  case program n =>
    by_cases hn : n = 0#8
    · subst hn
      exact reboot_continues h
    · rw [execProgram_of_ne s hn]
      have first_page : 0#8 < n := by bv_omega
      exact arm_page_continues (s := setProto .flashing { s with pages := n, pageIdx := 0#8 }) h rfl first_page
  case readCompassAcc =>
    obtain ⟨t, ht, hinv, hparams⟩ :=
      reply_continues (payload := [fieldByte s.compassAcc]) (st := .replyCompassAccuracy) .compassAcc h (.inl rfl)
        (by simp)
    refine ⟨{ t with compassAcc := 0#2 }, ?_, inv_frame hinv, hparams⟩
    rw [exec_readCompassAcc, sendCompassAcc, ht, andThen_next]
  all_goals cases hi

/-- The header hunt goes to a state that waits for one byte (R25, R191). -/
theorem waitLength_headerState (p : Params) (b : Byte) : waitLength (headerState p b) = some 1#7 := by
  unfold headerState
  split <;> rfl

/-- The dispatch of any opcode byte. -/
theorem dispatch_continues {s : State} (c : Byte) (h : Resting s) : Continues s (dispatch c s) := by
  cases hk : commandOf s.params c with
  | none =>
    rw [dispatch_unknown hk]
    exact arm_continues h rfl le_rfl (by decide)
  | some k =>
    cases k
    case setUnityOffset | setAxis | setId | program =>
      rw [dispatch_arms hk (by decide)]
      exact arm_continues h rfl (by decide) (by decide)
    all_goals
      rw [dispatch_executes hk rfl]
      exact exec_continues rfl h

/-- The address filter on any byte. -/
theorem addressFilter_continues {s : State} (b : Byte) (h : Resting s) : Continues s (addressFilter b s) := by
  by_cases hshadow : b = s.params.broadcastId ∧ s.fwDone = false
  · rw [addressFilter_handshake hshadow]
    exact ⟨_, rfl, downloading_inv h, rfl⟩
  · by_cases hb : b = s.devId
    · rw [addressFilter_own hshadow hb]
      exact arm_continues h rfl le_rfl (by decide)
    · rw [addressFilter_other hshadow hb]
      exact arm_continues h (waitLength_headerState _ _) le_rfl (by decide)

/-- Sixteen bytes hold a quaternion (R90). -/
theorem exists_quatOfBytes (o : WordOrder) {bs : List Byte} (h : bs.length = 16) : ∃ q, quatOfBytes o bs = some q := by
  match bs, h with
  | [_, _, _, _, _, _, _, _, _, _, _, _, _, _, _, _], _ => exact ⟨_, rfl⟩

/-- A receive is armed in these states only: those that wait for bytes, and `Flashing` (R25). -/
def armsReceive (st : ProtoState) : Prop := (waitLength st).isSome = true ∨ st = .flashing

/-- The entry on receive-complete, in every state that arms a receive (R192). -/
theorem rxdone_continues {s : State} (h : Resting s) (hst : armsReceive s.proto)
    (hpage : s.proto = .flashing → s.pageIdx < s.pages) : Continues s (rxdone s) := by
  have ⟨hok, hrx, _⟩ := h
  obtain ⟨-, -, hsize, -⟩ := params_ok_iff.1 hok
  rw [← hrx] at hsize
  obtain ⟨b, bs, hbuf⟩ : ∃ b bs, s.rxBuf = b :: bs := List.exists_cons_of_length_pos (by omega)
  cases hp : s.proto
  case waitHeader =>
    rw [rxdone_of_waitHeader hp hbuf]
    exact arm_continues h (waitLength_headerState _ _) le_rfl (by decide)
  case waitId =>
    rw [rxdone_of_waitId hp hbuf]
    exact addressFilter_continues b h
  case waitCommand =>
    rw [rxdone_of_waitCommand hp hbuf]
    exact dispatch_continues b h
  case waitUnityOffset =>
    have len_eq : (s.rxBuf.take 16).length = 16 := List.length_take_of_le (by omega)
    obtain ⟨q, hq⟩ := exists_quatOfBytes s.params.wordOrder len_eq
    rw [rxdone_of_waitUnityOffset hp (List.take_append_drop 16 s.rxBuf).symm len_eq hq]
    exact exec_continues rfl h
  case waitAxis =>
    rw [rxdone_of_waitAxis hp hbuf]
    exact exec_continues rfl h
  case waitNewId =>
    rw [rxdone_of_waitNewId hp hbuf]
    exact exec_continues rfl h
  case waitNumPages =>
    rw [rxdone_of_waitNumPages hp hbuf]
    exact exec_continues rfl h
  case flashing =>
    have len_eq : (s.rxBuf.take 64).length = 64 := List.length_take_of_le hsize
    rw [rxdone_of_flashing hp (List.take_append_drop 64 s.rxBuf).symm len_eq]
    obtain ⟨-, -, htx, hactive, harmed, hdir, hdrain, hmem⟩ := h
    have stored_page : Resting (storProgram s.pageIdx (s.rxBuf.take 64) s) :=
      ⟨hok, hrx, htx, hactive, harmed, hdir, hdrain, wf_storProgram _ _ s hmem⟩
    exact reply_continues .ack stored_page (.inr ⟨rfl, hpage hp⟩) (by simp)
  all_goals
    rw [hp] at hst
    rcases hst with hst | hst <;> cases hst

/-- The entry on send-complete (R193, R220). -/
theorem txdone_continues {s : State} (h : Resting s) (hpage : s.proto = .flashing → s.pageIdx < s.pages) :
    Continues s (txdone s) := by
  by_cases hp : s.proto = .flashing
  · rw [txdone_of_flashing hp]
    by_cases hlast : s.pageIdx + 1#8 = s.pages
    · rw [pageAcknowledged_last hlast]
      exact reboot_continues (s := { s with pageIdx := s.pageIdx + 1#8 }) h
    · rw [pageAcknowledged_more hlast]
      have below := hpage hp
      have next_below : s.pageIdx + 1#8 < s.pages := by bv_omega
      exact arm_page_continues (s := { s with pageIdx := s.pageIdx + 1#8 }) h hp next_below
  · rw [txdone_of_ne_flashing hp]
    exact arm_continues h rfl le_rfl (by decide)

/-! ## The codec -/

/-- While a receive is armed no send is in flight, and the state is one that arms a receive (R52 (c), (d)). -/
theorem Inv.of_armed {s : State} (h : Inv s) (harmed : s.rxArmed = true) :
    s.txActive = false ∧ s.txDrain = false ∧ armsReceive s.proto := by
  have hactive : s.txActive = false := by
    rw [← Bool.not_eq_true]
    exact fun hactive => h.codec.notBoth ⟨harmed, hactive⟩
  refine ⟨hactive, ?_, ?_⟩
  · rw [← Bool.not_eq_true]
    exact fun hdrain => by simp [h.drainActive hdrain] at hactive
  · have not_reply := h.codec.replying
    have not_downloading := h.codec.downloading
    unfold armsReceive
    cases hp : s.proto <;> simp [hp, hactive, harmed, waitLength, isReplyState] at not_reply not_downloading ⊢

/-- A byte received (R172 to R174). -/
theorem rxByteEvent_continues {s : State} (b : Byte) (h : Inv s) : Continues s (rxByteEvent b s) := by
  by_cases hl : listening s = true
  · obtain ⟨hdir, harmed⟩ := listening_eq_true.1 hl
    obtain ⟨-, hcnt, hlen⟩ := h.codec.armed harmed
    obtain ⟨hactive, hdrain, hst⟩ := h.of_armed harmed
    by_cases hesc : s.rxEsc = true
    · rw [rxByteEvent_of_esc b hl hesc]
      exact ⟨_, rfl, inv_frame h, rfl⟩
    · obtain ⟨-, -, hsize, -⟩ := params_ok_iff.1 h.params
      have room : s.rxCnt.toNat < s.rxBuf.length := by
        have := h.rxBufSize
        bv_omega
      rw [rxByteEvent_of_not_esc b hl (Bool.eq_false_iff.2 hesc)]
      by_cases hlast : s.rxCnt + 1#7 = s.rxLen
      · rw [dataByte_of_last b room hlast]
        have rest : Resting (completed b s) :=
          ⟨h.params, by rw [completed_rxBuf, List.length_set]; exact h.rxBufSize, h.txBufSize, hactive, rfl, hdir,
            hdrain, h.progMem⟩
        exact rxdone_continues rest hst h.pageBelow
      · rw [dataByte_of_more b room hlast]
        have more : s.rxCnt + 1#7 < s.rxLen := by bv_omega
        obtain ⟨⟨-, activeIffTx, active, notBoth, waiting, replying, flashing, downloading⟩, params, rxBufSize,
          txBufSize, drainActive, moreToSend, pageBelow, progMem⟩ := h
        have size : (stored b s).rxBuf.length = s.params.rxBufSize := by
          rw [stored_rxBuf, List.length_set]
          exact rxBufSize
        exact ⟨_, rfl, ⟨⟨fun _ => ⟨hdir, more, hlen⟩, activeIffTx, active, notBoth, waiting, replying, flashing,
          downloading⟩, params, size, txBufSize, drainActive, moreToSend, pageBelow, progMem⟩, rfl⟩
  · rw [rxByteEvent_of_not_listening b (Bool.eq_false_iff.2 hl)]
    exact ⟨s, rfl, h, rfl⟩

/-- What the transmitter's registers may become in a send (R52 (b), R167). -/
theorem inv_of_sending {s : State} (h : Inv s) (ha : s.txActive = true) (wireOut : List Byte) {cnt : BitVec 5}
    {pad drain : Bool} (hcnt : cnt ≤ s.txLen) (hdrain : drain = true → cnt = s.txLen ∧ pad = false)
    (hmore : drain = false → cnt < s.txLen ∨ pad = true) :
    Inv { s with wireOut := wireOut, txCnt := cnt, txPad := pad, txDrain := drain } := by
  obtain ⟨harmed, -, hlen, -⟩ := h.codec.active ha
  obtain ⟨⟨armed, activeIffTx, -, notBoth, waiting, replying, flashing, downloading⟩, params, rxBufSize, txBufSize,
    -, -, pageBelow, progMem⟩ := h
  exact ⟨⟨armed, activeIffTx, fun _ => ⟨harmed, hcnt, hlen, hdrain⟩, notBoth, waiting, replying, flashing, downloading⟩,
    params, rxBufSize, txBufSize, fun _ => ha, fun _ => hmore, pageBelow, progMem⟩

/-- The drain flag is set where the count has reached the length and no pad is owed, else something is left (R167). -/
theorem nextTxDrain_sound {cnt len : BitVec 5} {pad : Bool} (hcnt : cnt ≤ len) :
    (nextTxDrain cnt len pad = true → cnt = len ∧ pad = false) ∧
    (nextTxDrain cnt len pad = false → cnt < len ∨ pad = true) := by
  simp only [nextTxDrain_eq, decide_eq_true_eq, decide_eq_false_iff_not, imp_self, true_and]
  intro h
  by_cases hpad : pad = true
  · exact .inr hpad
  · have ne : cnt ≠ len := fun e => h ⟨e, Bool.eq_false_iff.2 hpad⟩
    exact .inl (by bv_omega)

/-- A `TX_READY` (R167). -/
theorem txReadyEvent_continues {s : State} (h : Inv s) : Continues s (txReadyEvent s) := by
  by_cases hidle : s.txActive = false ∨ s.txDrain = true
  · rw [txReadyEvent_idle hidle]
    exact ⟨s, rfl, h, rfl⟩
  · rw [not_or, Bool.not_eq_false, Bool.not_eq_true] at hidle
    obtain ⟨ha, hd⟩ := hidle
    obtain ⟨-, hcnt, hlen, -⟩ := h.codec.active ha
    by_cases hp : s.txPad = true
    · rw [txReadyEvent_pad ha hd hp]
      obtain ⟨drained, more⟩ := nextTxDrain_sound (pad := false) hcnt
      exact ⟨_, rfl, inv_of_sending h ha _ hcnt drained more, rfl⟩
    · have below : s.txCnt < s.txLen := (h.moreToSend ha hd).resolve_right hp
      obtain ⟨-, -, -, hsize⟩ := params_ok_iff.1 h.params
      have room : s.txCnt.toNat < s.txBuf.length := by
        have := h.txBufSize
        bv_omega
      have next_cnt : s.txCnt + 1#5 ≤ s.txLen := by bv_omega
      rw [txReadyEvent_byte ha hd (Bool.eq_false_iff.2 hp) (List.getElem?_eq_getElem room)]
      obtain ⟨drained, more⟩ := nextTxDrain_sound (pad := nextTxPad s.params s.txBuf[s.txCnt.toNat]) next_cnt
      exact ⟨_, rfl, inv_of_sending h ha _ next_cnt drained more, rfl⟩

/-- A `TX_IDLE` (R169). -/
theorem txIdleEvent_continues {s : State} (h : Inv s) : Continues s (txIdleEvent s) := by
  by_cases hd : s.txDrain = true
  · rw [txIdleEvent_of_drain hd]
    obtain ⟨harmed, -⟩ := h.codec.active (h.drainActive hd)
    have rest : Resting (turnedAround s) := ⟨h.params, h.rxBufSize, h.txBufSize, rfl, harmed, rfl, rfl, h.progMem⟩
    exact txdone_continues rest h.pageBelow
  · rw [txIdleEvent_of_not_drain (Bool.eq_false_iff.2 hd)]
    exact ⟨s, rfl, h, rfl⟩

/-- An `FW_DONE` (R227). -/
theorem fwDoneEvent_continues {s : State} (h : Inv s) : Continues s (fwDoneEvent s) := by
  by_cases hp : s.proto = .downloadingFirmware
  · obtain ⟨harmed, hactive⟩ := h.codec.downloading hp
    have hdrain : s.txDrain = false := by
      rw [← Bool.not_eq_true]
      exact fun hdrain => by simp [h.drainActive hdrain] at hactive
    have rest : Resting { s with fwDone := true, rxEsc := false, dir := .rx } :=
      ⟨h.params, h.rxBufSize, h.txBufSize, hactive, harmed, rfl, hdrain, h.progMem⟩
    rw [fwDoneEvent, if_pos hp]
    exact arm_continues rest (st := .waitHeader) rfl le_rfl (by decide)
  · rw [fwDoneEvent, if_neg hp]
    exact ⟨s, rfl, h, rfl⟩

/-- The `OP` values that are not reserved are the twelve of R97. -/
theorem op_of_not_reserved : ∀ op : BitVec 4, op ∉ reservedOps →
    op.toNat ∈ [0x0, 0x1, 0x2, 0x3, 0x4, 0x8, 0x9, 0xA, 0xB, 0xC, 0xD, 0xE] := by
  decide

/-- A request whose `OP` is not reserved selects a compute operation (R97, R98). -/
theorem exists_decodeCreq {r : Creq} (h : r.op ∉ reservedOps) : ∃ i, decodeCreq r = .ok i := by
  have selects := op_of_not_reserved r.op h
  simp only [List.mem_cons, List.not_mem_nil, or_false] at selects
  unfold decodeCreq
  rcases selects with h | h | h | h | h | h | h | h | h | h | h | h <;> rw [h] <;> exact ⟨_, rfl⟩

/-- A request is rejected for a reserved `OP` only (R98). -/
theorem op_of_rejected {r : Creq} {e : Reject} (h : decodeCreq r = .rejected e) : r.op ∈ reservedOps := by
  by_contra hop
  obtain ⟨i, hi⟩ := exists_decodeCreq hop
  cases h.symm.trans hi

/-- A compute request, but for a reserved `OP` (R96 to R98). -/
theorem cpEvent_continues {s : State} (r : Creq) (h : Inv s) :
    Continues s (cpEvent r s) ∨ r.op ∈ reservedOps ∧ cpEvent r s = .refused (.reservedOp r.op) := by
  rw [cpEvent]
  cases hi : decodeCreq r with
  | ok i =>
    obtain ⟨q, hq⟩ := exec_creq (decodeCreq_format hi) s
    exact .inl ⟨_, hq, inv_frame h, rfl⟩
  | rejected e => exact .inr ⟨op_of_rejected hi, rfl⟩

/-! ## The step -/

/-- From a state that keeps the invariants a step continues, or a reserved request is refused. -/
theorem step_continues {s : State} (h : Inv s) :
    Continues s (step s) ∨
    ∃ r rest, s.events = .cp r :: rest ∧ r.op ∈ reservedOps ∧ step s = .refused (.reservedOp r.op) := by
  cases hev : s.events with
  | nil => exact .inl ⟨s, step_idle hev, h, rfl⟩
  | cons e rest =>
    have h' := h.taken rest
    rw [step_event hev]
    cases e
    case cp r =>
      rcases cpEvent_continues r h' with hc | ⟨hop, hrefused⟩
      · exact .inl hc
      · exact .inr ⟨r, rest, rfl, hop, hrefused⟩
    case rxByte b => exact .inl (rxByteEvent_continues b h')
    case txReady => exact .inl (txReadyEvent_continues h')
    case txIdle => exact .inl (txIdleEvent_continues h')
    case sample q => exact .inl ⟨_, rfl, inv_frame h', rfl⟩
    case compass level => exact .inl ⟨_, rfl, inv_frame h', rfl⟩
    case fwDone => exact .inl (fwDoneEvent_continues h')
    case reset => exact .inl ⟨_, rfl, resetBlock_inv h'.params h'.rxBufSize h'.txBufSize h'.progMem, rfl⟩

/-! ## The statements -/

/-- Settles O54: the state at reset is the reset of itself. -/
theorem resetStateKeepsTheInvariants : Obligations.ResetStateKeepsTheInvariants := by
  have at_reset : resetBlock State.reset = State.reset := by decide
  rw [Obligations.ResetStateKeepsTheInvariants, ← at_reset]
  exact resetBlock_inv (by decide) (by decide) (by decide) rfl

/-- Settles O55: the next state is the one that continues the run. -/
theorem everyStepKeepsTheInvariants : Obligations.EveryStepKeepsTheInvariants := by
  intro s t h hstep
  rcases step_continues h with ⟨u, hu, hinv, hparams⟩ | ⟨r, rest, -, -, hrefused⟩
  · obtain rfl : t = u := Host.Outcome.next.inj (hstep.symm.trans hu)
    exact ⟨hinv, hparams⟩
  · cases hstep.symm.trans hrefused

/-- Settles O56: a run goes on unless the request is reserved. -/
theorem onlyReservedRequestsAreRefused : Obligations.OnlyReservedRequestsAreRefused := by
  intro s h
  rcases step_continues h with ⟨t, ht, -⟩ | hreserved
  · exact .inl ⟨t, ht⟩
  · exact .inr hreserved

end Sys2Proof.Machine
end

section
/-! PROOFS. Who writes what (spec 10_state.md R54, 20_memory.md R66 to R71): an instruction leaves program memory and
the ports alone, and a step writes the configuration, the storage and the handshake flag by its own causes only. The
one case distinction behind the three statements about a step is `step_writes`: what the entry on receive-complete
writes, and that every other transaction but SAMPLE, FW_DONE and a reset writes none of it. -/

namespace Sys2Proof.Machine

open Sys2Proof

/-! ## What an instruction keeps (R54, R166) -/

/-- Program memory, the raw sample, the events to come, the parameters and the wire are as they were. -/
def InstrKeeps (s t : State) : Prop :=
  t.progMem = s.progMem ∧ t.qRaw = s.qRaw ∧ t.events = s.events ∧ t.params = s.params ∧ t.wireOut = s.wireOut

theorem instrKeeps_of_reply {k : ReplyKind} {payload : List Byte} {st : ProtoState} {s u t : State}
    (h : reply k payload st u = .next t) (hu : InstrKeeps s u) : InstrKeeps s t := by
  obtain ⟨-, -, rfl⟩ := reply_eq_next.1 h
  exact hu

theorem instrKeeps_of_arm {n : Nat} {s u t : State} (h : arm n u = .next t) (hu : InstrKeeps s u) : InstrKeeps s t := by
  obtain ⟨-, -, -, -, rfl⟩ := arm_eq_next.1 h
  exact hu

/-- Every instruction keeps them, but for the reset of PROGRAM with count 0 (R214). -/
theorem exec_keeps {i : Instr} {s t : State} (h : exec i s = .next t) :
    InstrKeeps s t ∨ i = .program 0#8 ∧ t = resetBlock { s with rebootReqs := s.rebootReqs + 1 } := by
  cases i
  case ping | setChipOffset | setUnityOffset | setAxis | setId | flash | readQuat | replyAck | replyQuat |
      replyCompassAcc =>
    exact .inl (instrKeeps_of_reply h ⟨rfl, rfl, rfl, rfl, rfl⟩)
  case program n =>
    rcases execProgram_cases h with ⟨rfl, rfl⟩ | ⟨-, harm⟩
    · exact .inr ⟨rfl, rfl⟩
    · exact .inl (instrKeeps_of_arm harm ⟨rfl, rfl, rfl, rfl, rfl⟩)
  case readCompassAcc =>
    rw [exec_readCompassAcc] at h
    obtain ⟨u, hu, ht⟩ := andThen_eq_next.1 h
    cases ht
    have kept : InstrKeeps s u := instrKeeps_of_reply hu ⟨rfl, rfl, rfl, rfl, rfl⟩
    exact .inl kept
  all_goals
    cases h
    exact .inl ⟨rfl, rfl, rfl, rfl, rfl⟩

/-! ## What a step keeps (R54) -/

/-- The configuration, the raw and the output quaternion, the handshake flag and the storage of a state. -/
structure Config where
  devId : Byte
  axis : Axis
  qUnity : Quat
  qChip : Quat
  qOut : Quat
  qRaw : Quat
  fwDone : Bool
  record : ConfigRecord
  progMem : Memory

/-- The registers and stores of the state. -/
def config (s : State) : Config :=
  ⟨s.devId, s.axis, s.qUnity, s.qChip, s.qOut, s.qRaw, s.fwDone, s.record, s.progMem⟩

/-- They are as they were, each of them. -/
theorem config_eq_iff {s t : State} :
    config t = config s ↔
      t.devId = s.devId ∧ t.axis = s.axis ∧ t.qUnity = s.qUnity ∧ t.qChip = s.qChip ∧ t.qOut = s.qOut ∧
      t.qRaw = s.qRaw ∧ t.fwDone = s.fwDone ∧ t.record = s.record ∧ t.progMem = s.progMem := by
  rw [config, config, Config.mk.injEq]

/-- A reply writes none of them. -/
theorem config_of_reply {k : ReplyKind} {payload : List Byte} {st : ProtoState} {s t : State}
    (h : reply k payload st s = .next t) : config t = config s ∧ t.proto = st := by
  obtain ⟨-, -, rfl⟩ := reply_eq_next.1 h
  exact ⟨rfl, rfl⟩

/-- `Arm` writes none of them. -/
theorem config_of_arm {n : Nat} {s t : State} (h : arm n s = .next t) : config t = config s ∧ t.proto = s.proto := by
  obtain ⟨-, -, -, -, rfl⟩ := arm_eq_next.1 h
  exact ⟨rfl, rfl⟩

/-- All that the entry on receive-complete can write of it before it arms a receive or sends a reply (R192 to R219).
-/
inductive ReceiveWrites (s : State) : State → Prop where
  /-- Nothing. -/
  | nothing : ReceiveWrites s s
  /-- SET_CHIP_OFFSET (R203). -/
  | chipOffset (bs : List Byte) (hp : s.proto = .waitCommand) (hbuf : s.rxBuf = s.params.ops.setChipOffset :: bs) :
      ReceiveWrites s { s with qChip := qinvQ s.qRaw }
  /-- FLASH (R211). -/
  | flash (bs : List Byte) (hp : s.proto = .waitCommand) (hbuf : s.rxBuf = s.params.ops.flash :: bs) :
      ReceiveWrites s (storWrite (currentRecord s) s)
  /-- SET_UNITY_OFFSET (R205). -/
  | unityOffset (q : Quat) (hp : s.proto = .waitUnityOffset)
      (hq : quatOfBytes s.params.wordOrder (s.rxBuf.take 16) = some q) : ReceiveWrites s { s with qUnity := q }
  /-- SET_AXIS (R207). -/
  | axis (a : Byte) (bs : List Byte) (hp : s.proto = .waitAxis) (hbuf : s.rxBuf = a :: bs) :
      ReceiveWrites s { s with axis := axisOfByte a }
  /-- SET_ID (R209). -/
  | identity (n : Byte) (bs : List Byte) (hp : s.proto = .waitNewId) (hbuf : s.rxBuf = n :: bs) :
      ReceiveWrites s { s with devId := n }
  /-- A page (R219). -/
  | page (hp : s.proto = .flashing) : ReceiveWrites s (storProgram s.pageIdx (s.rxBuf.take 64) s)

/-- The entry on receive-complete has written what `ReceiveWrites` allows, and has not entered the firmware detour. -/
def Wrote (s t : State) : Prop := ∃ u, ReceiveWrites s u ∧ config t = config u ∧ t.proto ≠ .downloadingFirmware

theorem wrote_of_reply {s u t : State} {k : ReplyKind} {payload : List Byte} {st : ProtoState} (hu : ReceiveWrites s u)
    (h : reply k payload st u = .next t) (hst : st ≠ .downloadingFirmware) : Wrote s t := by
  obtain ⟨kept, rfl⟩ := config_of_reply h
  exact ⟨u, hu, kept, hst⟩

theorem wrote_of_arm {s u t : State} {n : Nat} (h : arm n u = .next t) (hu : config u = config s)
    (hst : u.proto ≠ .downloadingFirmware) : Wrote s t := by
  obtain ⟨kept, hproto⟩ := config_of_arm h
  exact ⟨s, .nothing, kept.trans hu, hproto.symm ▸ hst⟩

/-- No command is executed in the firmware detour (R198). -/
theorem commandState_ne_downloading (k : Command) : commandState k ≠ .downloadingFirmware := by
  cases k <;> decide

/-- What the dispatch of an opcode byte can write (R198). -/
theorem dispatch_wrote {s t : State} {c : Byte} {bs : List Byte} (hp : s.proto = .waitCommand)
    (hbuf : s.rxBuf = c :: bs) (h : dispatch c s = .next t) : Wrote s t := by
  rcases dispatch_cases h with ⟨k, hk, -, i, hi, hexec⟩ | ⟨k, -, -, harm⟩ | ⟨-, harm⟩
  · obtain rfl := commandOf_eq_some hk
    cases k
    case ping =>
      cases hi
      exact wrote_of_reply .nothing hexec (by decide)
    case readQuat =>
      cases hi
      exact wrote_of_reply .nothing hexec (by decide)
    case setChipOffset =>
      cases hi
      exact wrote_of_reply (.chipOffset bs hp hbuf) hexec (by decide)
    case flash =>
      cases hi
      exact wrote_of_reply (.flash bs hp hbuf) hexec (by decide)
    case readCompassAcc =>
      cases hi
      obtain ⟨u, hu, ht⟩ := andThen_eq_next.1 hexec
      cases ht
      exact wrote_of_reply (t := u) .nothing hu (by decide)
    all_goals cases hi
  · exact wrote_of_arm harm rfl (commandState_ne_downloading k)
  · exact wrote_of_arm harm rfl nofun

/-- All that the entry on receive-complete can write: it reboots, it enters the detour, or it writes what
`ReceiveWrites` allows. -/
theorem rxdone_writes {s t : State} (h : rxdone s = .next t) :
    (s.proto = .waitNumPages ∧ (∃ bs, s.rxBuf = 0#8 :: bs) ∧
      t = resetBlock { s with rebootReqs := s.rebootReqs + 1 }) ∨
    (s.proto = .waitId ∧ s.fwDone = false ∧ (∃ bs, s.rxBuf = s.params.broadcastId :: bs) ∧
      t = setProto .downloadingFirmware s) ∨
    Wrote s t := by
  rcases rxdone_cases h with ⟨-, b, bs, -, hb⟩ | ⟨hp, b, bs, hbuf, hb⟩ | ⟨hp, b, bs, hbuf, hb⟩ | ⟨hp, hb⟩ |
    ⟨hp, b, bs, hbuf, hb⟩ | ⟨hp, b, bs, hbuf, hb⟩ | ⟨hp, b, bs, hbuf, hb⟩ | ⟨hp, hb⟩
  · exact .inr (.inr (wrote_of_arm hb rfl (headerState_ne_downloading _ _)))
  · rcases addressFilter_cases hb with ⟨rfl, hfw, rfl⟩ | ⟨-, harm⟩ | harm
    · exact .inr (.inl ⟨hp, hfw, ⟨bs, hbuf⟩, rfl⟩)
    · exact .inr (.inr (wrote_of_arm harm rfl nofun))
    · exact .inr (.inr (wrote_of_arm harm rfl (headerState_ne_downloading _ _)))
  · exact .inr (.inr (dispatch_wrote hp hbuf hb))
  · obtain ⟨q, hq, hexec⟩ := unityPayload_cases hb
    exact .inr (.inr (wrote_of_reply (.unityOffset q hp hq) hexec (by decide)))
  · exact .inr (.inr (wrote_of_reply (.axis b bs hp hbuf) hb (by decide)))
  · exact .inr (.inr (wrote_of_reply (.identity b bs hp hbuf) hb (by decide)))
  · rcases execProgram_cases hb with ⟨rfl, rfl⟩ | ⟨-, harm⟩
    · exact .inl ⟨hp, ⟨bs, hbuf⟩, rfl⟩
    · exact .inr (.inr (wrote_of_arm harm rfl nofun))
  · obtain ⟨-, hack⟩ := pageReceived_eq_next.1 hb
    exact .inr (.inr (wrote_of_reply (.page hp) hack (by decide)))

/-! ## The byte that completes a receive -/

/-- The byte in front of the buffer is the one the receive was completed with; in a one-byte receive it is the byte of
the event (R25, R174). -/
theorem completesWith_of_cons {s : State} {b c : Byte} {bs : List Byte} (h : completesReceive s)
    (hbuf : bufferWith b s = c :: bs) : completesWith c b s := by
  refine ⟨h, by rw [hbuf]; rfl, fun hlen => ?_⟩
  obtain ⟨-, -, -, hroom, hlast⟩ := h
  have cnt_zero : s.rxCnt = 0#7 := by bv_omega
  rw [bufferWith, cnt_zero] at hbuf
  obtain ⟨d, ds, hcons⟩ := List.exists_cons_of_length_pos (Nat.zero_lt_of_lt hroom)
  rw [hcons] at hbuf
  exact (List.cons.inj hbuf).1

/-- What a reset leaves: the storage, the header hunt and a cleared handshake flag (R270, R273). -/
theorem resetIn_leaves {s t : State} (h : resetIn s t) :
    t.fwDone = false ∧ t.proto = .waitHeader ∧ t.record = s.record ∧ t.progMem = s.progMem := by
  rcases h with ⟨rest, -, rfl⟩ | ⟨b, rest, -, -, -, rfl⟩ | ⟨rest, -, -, -, -, rfl⟩ <;> exact ⟨rfl, rfl, rfl, rfl⟩

/-- The state of the entry on receive-complete, for the byte `b` and the later events `rest`. -/
def completedIn (s : State) (b : Byte) (rest : List Event) : State := completed b { s with events := rest }

/-- What a step can write of the configuration, the storage and the handshake flag (R54). -/
inductive StepWrites (s t : State) : Prop where
  /-- The step resets the block. -/
  | reset (h : resetIn s t)
  /-- The step completes a receive. -/
  | received (b : Byte) (rest : List Event) (hev : s.events = .rxByte b :: rest) (completes : completesReceive s)
      (wrote : Wrote (completedIn s b rest) t)
  /-- The step enters the firmware detour. -/
  | handshake (b : Byte) (rest : List Event) (hev : s.events = .rxByte b :: rest) (hp : s.proto = .waitId)
      (hfw : s.fwDone = false) (hbyte : completesWith s.params.broadcastId b s) (kept : config t = config s)
  /-- The step takes a sample. -/
  | sample (q : Quat) (rest : List Event) (hev : s.events = .sample q :: rest)
      (ht : t = sampleEvent q { s with events := rest })
  /-- The step ends the firmware detour. -/
  | firmware (rest : List Event) (hev : s.events = .fwDone :: rest) (hp : s.proto = .downloadingFirmware)
      (ht : t = armed 1 (firmwareDone { s with events := rest }))
  /-- The step writes nothing of it, and does not enter the detour. -/
  | nothing (kept : config t = config s) (hp : t.proto = .downloadingFirmware → s.proto = .downloadingFirmware)

/-- A byte received writes on completion of its receive only (R172 to R174). -/
theorem rxByteEvent_writes {s t : State} {b : Byte} {rest : List Event} (hev : s.events = .rxByte b :: rest)
    (h : rxByteEvent b { s with events := rest } = .next t) : StepWrites s t := by
  rcases rxByteEvent_cases h with ⟨-, rfl⟩ | ⟨-, -, rfl⟩ | ⟨⟨hdir, harmed⟩, hesc, hroom, ⟨-, rfl⟩ | ⟨hlast, hdone⟩⟩
  · exact .nothing rfl id
  · exact .nothing rfl id
  · exact .nothing rfl id
  · have completes : completesReceive s := ⟨hdir, harmed, hesc, hroom, hlast⟩
    rcases rxdone_writes hdone with ⟨hp, ⟨bs, hbuf⟩, rfl⟩ | ⟨hp, hfw, ⟨bs, hbuf⟩, rfl⟩ | wrote
    · exact .reset (.inr (.inl ⟨b, rest, hev, hp, completesWith_of_cons completes hbuf, rfl⟩))
    · exact .handshake b rest hev hp hfw (completesWith_of_cons completes hbuf) rfl
    · exact .received b rest hev completes wrote

/-- The end of a send writes by the reboot after the last page only (R169, R193, R220). -/
theorem txIdleEvent_writes {s t : State} {rest : List Event} (hev : s.events = .txIdle :: rest)
    (h : txIdleEvent { s with events := rest } = .next t) : StepWrites s t := by
  rcases txIdleEvent_cases h with ⟨-, rfl⟩ | ⟨hdrain, hdone⟩
  · exact .nothing rfl id
  rcases txdone_cases hdone with ⟨hp, hack⟩ | ⟨-, harm⟩
  · rcases pageAcknowledged_cases hack with ⟨hlast, rfl⟩ | ⟨-, harm⟩
    · exact .reset (.inr (.inr ⟨rest, hev, hdrain, hp, hlast, rfl⟩))
    · obtain ⟨kept, hproto⟩ := config_of_arm harm
      exact .nothing kept fun hd => hproto.symm.trans hd
  · obtain ⟨kept, hproto⟩ := config_of_arm harm
    exact .nothing kept fun hd => nomatch hproto.symm.trans hd

/-- Every step is one of these (R250, R262). -/
theorem step_writes {s t : State} (h : step s = .next t) : StepWrites s t := by
  rcases step_cases h with ⟨-, rfl⟩ | ⟨e, rest, hev, ht⟩
  · exact .nothing rfl id
  cases e
  case cp r =>
    obtain ⟨q, rfl⟩ := cpEvent_cases ht
    exact .nothing rfl id
  case rxByte b => exact rxByteEvent_writes hev ht
  case txReady =>
    rcases txReadyEvent_cases ht with ⟨-, rfl⟩ | ⟨-, -, -, rfl⟩ | ⟨-, -, -, b, -, rfl⟩ <;> exact .nothing rfl id
  case txIdle => exact txIdleEvent_writes hev ht
  case sample q => exact .sample q rest hev (Host.Outcome.next.inj ht).symm
  case compass level =>
    cases ht
    exact .nothing rfl id
  case fwDone =>
    rcases fwDoneEvent_cases ht with ⟨-, rfl⟩ | ⟨hp, harm⟩
    · exact .nothing rfl id
    · obtain ⟨-, -, -, -, rfl⟩ := arm_eq_next.1 harm
      exact .firmware rest hev hp rfl
  case reset => exact .reset (.inl ⟨rest, hev, (Host.Outcome.next.inj ht).symm⟩)

/-! ## The statements -/

/-- Settles O33: the frame of every instruction, and the reset of PROGRAM 0, which keeps program memory too. -/
theorem noInstructionWritesProgramMemory : Obligations.NoInstructionWritesProgramMemory := by
  intro i s t h
  rcases exec_keeps h with ⟨hmem, hraw, hevents, hparams, hwire⟩ | ⟨rfl, rfl⟩
  · exact ⟨fun k => by rw [hmem], .inl hraw, hevents, hparams, hwire⟩
  · exact ⟨fun _ => rfl, .inr rfl, rfl, rfl, rfl⟩

/-- Settles O57, by what a step can write. -/
theorem configurationIsWrittenOnlyByItsCommands : Obligations.ConfigurationIsWrittenOnlyByItsCommands := by
  intro s t h
  cases step_writes h with
  | reset hreset => exact .inl hreset
  | received b rest hev completes wrote =>
    right
    obtain ⟨u, hu, hkept, -⟩ := wrote
    obtain ⟨devId, axis, qUnity, qChip, qOut, qRaw, -⟩ := config_eq_iff.1 hkept
    cases hu with
    | nothing | flash | page => exact ⟨.inl devId, .inl axis, .inl qUnity, .inl qChip, .inl ⟨qOut, qRaw⟩⟩
    | chipOffset bs hp hbuf =>
      exact ⟨.inl devId, .inl axis, .inl qUnity,
        .inr ⟨hp, qChip, b, rest, hev, completesWith_of_cons completes hbuf⟩, .inl ⟨qOut, qRaw⟩⟩
    | unityOffset q hp hq =>
      exact ⟨.inl devId, .inl axis, .inr ⟨hp, b, rest, hev, completes, hq.trans (congrArg some qUnity.symm)⟩,
        .inl qChip, .inl ⟨qOut, qRaw⟩⟩
    | axis a bs hp hbuf =>
      exact ⟨.inl devId, .inr ⟨hp, a, b, rest, hev, completesWith_of_cons completes hbuf, axis⟩, .inl qUnity,
        .inl qChip, .inl ⟨qOut, qRaw⟩⟩
    | identity n bs hp hbuf =>
      refine ⟨.inr ⟨hp, b, rest, hev, ?_⟩, .inl axis, .inl qUnity, .inl qChip, .inl ⟨qOut, qRaw⟩⟩
      rw [devId]
      exact completesWith_of_cons completes hbuf
  | sample q rest hev ht =>
    subst ht
    exact .inr ⟨.inl rfl, .inl rfl, .inl rfl, .inl rfl, .inr ⟨q, rest, hev, rfl, rfl⟩⟩
  | firmware rest hev hp ht =>
    subst ht
    exact .inr ⟨.inl rfl, .inl rfl, .inl rfl, .inl rfl, .inl ⟨rfl, rfl⟩⟩
  | handshake _ _ _ _ _ _ hkept | nothing hkept =>
    obtain ⟨devId, axis, qUnity, qChip, qOut, qRaw, -⟩ := config_eq_iff.1 hkept
    exact .inr ⟨.inl devId, .inl axis, .inl qUnity, .inl qChip, .inl ⟨qOut, qRaw⟩⟩

/-- In `Flashing` the receive that completes is that of a page (R52 (d)). -/
theorem rxLen_of_flashing {s : State} (h : CodecInv s) (hp : s.proto = .flashing) (harmed : s.rxArmed = true) :
    s.rxLen = 64#7 := by
  rcases h.flashing hp with ⟨-, hlen, -⟩ | ⟨hnot, -⟩
  · exact hlen
  · cases harmed.symm.trans hnot

/-- Settles O58, by what a step can write; a write that the collaborator fails is none. -/
theorem storageIsWrittenOnlyByFlashAndPages : Obligations.StorageIsWrittenOnlyByFlashAndPages := by
  intro s t h
  cases step_writes h with
  | reset hreset =>
    obtain ⟨-, -, record, progMem⟩ := resetIn_leaves hreset
    exact ⟨.inl record, .inl progMem⟩
  | received b rest hev completes wrote =>
    obtain ⟨u, hu, hkept, -⟩ := wrote
    obtain ⟨-, -, -, -, -, -, -, record, progMem⟩ := config_eq_iff.1 hkept
    cases hu with
    | nothing | chipOffset | unityOffset | axis | identity => exact ⟨.inl record, .inl progMem⟩
    | flash bs hp hbuf =>
      rw [storWrite_record] at record
      split at record
      · exact ⟨.inr ⟨hp, record, b, rest, hev, completesWith_of_cons completes hbuf⟩, .inl progMem⟩
      · exact ⟨.inl record, .inl progMem⟩
    | page hp =>
      rw [storProgram_progMem] at progMem
      split at progMem
      · have ⟨_, harmed, _⟩ := completes
        exact ⟨.inl record,
          .inr ⟨hp, b, rest, hev, completes, fun hinv => rxLen_of_flashing hinv hp harmed, progMem⟩⟩
      · exact ⟨.inl record, .inl progMem⟩
  | sample q rest hev ht =>
    subst ht
    exact ⟨.inl rfl, .inl rfl⟩
  | firmware rest hev hp ht =>
    subst ht
    exact ⟨.inl rfl, .inl rfl⟩
  | handshake _ _ _ _ _ _ hkept | nothing hkept =>
    obtain ⟨-, -, -, -, -, -, -, record, progMem⟩ := config_eq_iff.1 hkept
    exact ⟨.inl record, .inl progMem⟩

/-- What completing a receive writes leaves the handshake flag alone (R29). -/
theorem ReceiveWrites.fwDone_eq {s u : State} (h : ReceiveWrites s u) : u.fwDone = s.fwDone := by
  cases h <;> rfl

/-- Settles O59, by what a step can write. -/
theorem handshakeIsTakenOncePerBoot : Obligations.HandshakeIsTakenOncePerBoot := by
  intro s t h
  cases step_writes h with
  | reset hreset =>
    obtain ⟨hfw, hproto, -, -⟩ := resetIn_leaves hreset
    exact ⟨.inr (.inr ⟨hfw, hreset⟩), fun hd => nomatch hproto.symm.trans hd⟩
  | received b rest hev completes wrote =>
    obtain ⟨u, hu, hkept, hproto⟩ := wrote
    obtain ⟨-, -, -, -, -, -, fwDone, -⟩ := config_eq_iff.1 hkept
    exact ⟨.inl (fwDone.trans hu.fwDone_eq), fun hd => absurd hd hproto⟩
  | handshake b rest hev hp hfw hbyte hkept =>
    obtain ⟨-, -, -, -, -, -, fwDone, -⟩ := config_eq_iff.1 hkept
    exact ⟨.inl fwDone, fun _ => .inr ⟨hp, hfw, b, rest, hev, hbyte⟩⟩
  | sample q rest hev ht =>
    subst ht
    exact ⟨.inl rfl, .inl⟩
  | firmware rest hev hp ht =>
    subst ht
    exact ⟨.inr (.inl ⟨rfl, hp, rest, hev⟩), fun hd => nomatch hd⟩
  | nothing hkept hp =>
    obtain ⟨-, -, -, -, -, -, fwDone, -⟩ := config_eq_iff.1 hkept
    exact ⟨.inl fwDone, fun hd => .inl (hp hd)⟩

end Sys2Proof.Machine
end

section
/-! PROOFS. The Q30 scalar unit (spec 40_q30_alu.md R112 to R129). The split multiply is the exact product taken apart
in 16-bit halves, so its laws are arithmetic of the halves; the conversions are those of a sign and a magnitude whose
leading one is at bit `31 - n`, where `clz32` is `n`. -/

namespace Sys2Proof.Machine

open Sys2Proof

/-! ## The meanings: each answers with the word of its function (R96) -/

theorem exec_toFloat (a : Word) (s : State) :
    exec (.toFloat a) s = .next (answered (scalarQuat (toFloatW a)) s) := rfl

theorem exec_fromFloat (f : Word) (s : State) :
    exec (.fromFloat f) s = .next (answered (scalarQuat (fromFloatW f)) s) := rfl

theorem exec_mul (a b : Word) (s : State) : exec (.mul a b) s = .next (answered (scalarQuat (mulW a b)) s) := rfl

/-- SQUARE is MUL with both operands equal (R122). -/
theorem exec_square (a : Word) (s : State) : exec (.square a) s = exec (.mul a a) s := rfl

theorem exec_sqrt (a : Word) (s : State) :
    exec (.sqrt a) s = .next (answered (scalarQuat (sqrtW s.params a)) s) := rfl

/-! ## Halves of a word and the split multiply (R118) -/

theorem highHalf_eq (a : Word) : highHalf a = a.toInt / 65536 := rfl

theorem lowHalf_eq (a : Word) : lowHalf a = ((a.toNat % 65536 : Nat) : Int) := by
  rw [lowHalf, BitVec.extractLsb'_toNat, Nat.shiftRight_zero]

/-- A word is its two halves. -/
theorem toInt_eq_halves (a : Word) : a.toInt = 65536 * highHalf a + lowHalf a := by
  rw [highHalf_eq, lowHalf_eq, BitVec.toInt_eq_toNat_cond]
  split <;> omega

/-- The sum of the four shifted partial products, before it is wrapped. -/
def partialSum (a b : Word) : Int :=
  highHalf a * highHalf b * 4 + highHalf a * lowHalf b / 16384 + lowHalf a * highHalf b / 16384 +
    lowHalf a * lowHalf b / 2 ^ 30

theorem lowHalf_nonneg (a : Word) : 0 ≤ lowHalf a := Int.natCast_nonneg _

theorem mulW_eq_partialSum (a b : Word) : mulW a b = BitVec.ofInt 32 (partialSum a b) := by
  have low_product : ((lsr (lowHalf a * lowHalf b).toNat 30 : Nat) : Int) = lowHalf a * lowHalf b / 2 ^ 30 := by
    rw [lsr, Int.natCast_ediv, Int.toNat_of_nonneg (Int.mul_nonneg (lowHalf_nonneg a) (lowHalf_nonneg b))]
    rfl
  rw [mulW, low_product]
  rfl

/-- The parts dropped are three fractions of one LSB: the sum is below the exact product, by less than 3 LSB (R120).
-/
theorem partialSum_bounds (a b : Word) :
    partialSum a b * 2 ^ 30 ≤ a.toInt * b.toInt ∧ a.toInt * b.toInt < (partialSum a b + 3) * 2 ^ 30 := by
  have product : a.toInt * b.toInt = 2 ^ 32 * (highHalf a * highHalf b) + 2 ^ 16 * (highHalf a * lowHalf b) +
      2 ^ 16 * (lowHalf a * highHalf b) + lowHalf a * lowHalf b := by
    rw [toInt_eq_halves a, toInt_eq_halves b]
    ring
  rw [product, partialSum]
  omega

/-- A word is the wrap of its value. -/
theorem ofInt_toInt_eq {x : Word} {n : Int} (h : n = x.toInt) : BitVec.ofInt 32 n = x := by
  rw [h, BitVec.ofInt_toInt]

theorem highHalf_one : highHalf oneQ30 = 16384 := by decide
theorem lowHalf_one : lowHalf oneQ30 = 0 := by decide
theorem highHalf_zero : highHalf 0#32 = 0 := by decide
theorem lowHalf_zero : lowHalf 0#32 = 0 := by decide

/-- MUL commutes (R120). -/
theorem mulW_comm (x y : Word) : mulW x y = mulW y x := by
  have swap : partialSum x y = partialSum y x := by
    rw [partialSum, partialSum, Int.mul_comm (highHalf x) (highHalf y), Int.mul_comm (highHalf x) (lowHalf y),
      Int.mul_comm (lowHalf x) (highHalf y), Int.mul_comm (lowHalf x) (lowHalf y)]
    omega
  rw [mulW_eq_partialSum, mulW_eq_partialSum, swap]

/-- MUL by 1.0 is exact (R120). -/
@[simp] theorem mulW_one_left (x : Word) : mulW oneQ30 x = x := by
  rw [mulW_eq_partialSum]
  apply ofInt_toInt_eq
  rw [partialSum, highHalf_one, lowHalf_one, toInt_eq_halves]
  omega

@[simp] theorem mulW_one_right (x : Word) : mulW x oneQ30 = x := by
  rw [mulW_comm, mulW_one_left]

/-- MUL by 0 gives 0 (R120). -/
@[simp] theorem mulW_zero_left (x : Word) : mulW 0#32 x = 0#32 := by
  rw [mulW_eq_partialSum, partialSum, highHalf_zero, lowHalf_zero]
  simp

@[simp] theorem mulW_zero_right (x : Word) : mulW x 0#32 = 0#32 := by
  rw [mulW_comm, mulW_zero_left]

/-! ## Leading zeros (R16) -/

/-- A word whose leading one is at bit `31 - n` has `n` leading zeros. -/
theorem clz32_eq {v : Word} {n : Nat} (hn : n ≤ 31) (hlo : 2 ^ (31 - n) ≤ v.toNat) (hhi : v.toNat < 2 ^ (32 - n)) :
    clz32 v = n := by
  have pos : 0 < v.toNat := lt_of_lt_of_le (Nat.two_pow_pos _) hlo
  have ne_zero : v ≠ 0#32 := by
    rintro rfl
    exact absurd pos (by decide)
  have log_eq : v.toNat.log2 = 31 - n :=
    (Nat.log2_eq_iff pos.ne').2 ⟨hlo, by rwa [show 31 - n + 1 = 32 - n by omega]⟩
  rw [clz32, if_neg ne_zero, log_eq]
  omega

/-! ## TOFLOAT (R112) -/

theorem msb_eq_decide (a : Word) : a.msb = decide (a.toInt < 0) := BitVec.msb_eq_toInt

/-- The magnitude of a word is the absolute value of its value, 2^31 included. -/
theorem magnitude_toNat (a : Word) : (magnitude a).toNat = a.toInt.natAbs := by
  have upper := a.isLt
  have value := BitVec.toInt_eq_toNat_cond a
  rw [magnitude, msb_eq_decide]
  by_cases hneg : a.toInt < 0
  · rw [if_pos (decide_eq_true hneg), wrap32, s32, BitVec.toNat_ofInt]
    split at value <;> omega
  · rw [if_neg (by simpa using hneg)]
    split at value <;> omega

/-- A sign bit, an exponent field and a fraction field joined. -/
theorem toNat_append_fields (neg : Bool) (e : BitVec 8) (f : BitVec 23) :
    (BitVec.ofBool neg ++ e ++ f).toNat = (if neg then 2 ^ 31 else 0) + e.toNat * 2 ^ 23 + f.toNat := by
  rw [BitVec.toNat_append, BitVec.toNat_append, ← Nat.shiftLeft_add_eq_or_of_lt f.isLt,
    ← Nat.shiftLeft_add_eq_or_of_lt e.isLt, Nat.shiftLeft_eq, Nat.shiftLeft_eq]
  cases neg with
  | false => simp
  | true =>
    simp
    omega

/-- The normalised magnitude has its leading one at bit 31. -/
theorem normalized_bounds {m n : Nat} (hn : n ≤ 31) (hlo : 2 ^ (31 - n) ≤ m) (hhi : m < 2 ^ (32 - n)) :
    2 ^ 31 ≤ m * 2 ^ n ∧ m * 2 ^ n < 2 ^ 32 := by
  constructor
  · calc 2 ^ 31 = 2 ^ (31 - n) * 2 ^ n := by rw [← Nat.pow_add, Nat.sub_add_cancel hn]
      _ ≤ m * 2 ^ n := Nat.mul_le_mul_right _ hlo
  · calc m * 2 ^ n < 2 ^ (32 - n) * 2 ^ n := Nat.mul_lt_mul_of_pos_right hhi (Nat.two_pow_pos n)
      _ = 2 ^ 32 := by rw [← Nat.pow_add, Nat.sub_add_cancel (by omega)]

/-- TOFLOAT of a word whose magnitude has its leading one at bit `31 - n`, as a number (R112). -/
theorem toFloatW_toNat {a : Word} {n : Nat} (hn : n ≤ 31) (hlo : 2 ^ (31 - n) ≤ a.toInt.natAbs)
    (hhi : a.toInt.natAbs < 2 ^ (32 - n)) :
    (toFloatW a).toNat =
      (if a.toInt < 0 then 2 ^ 31 else 0) + (128 - n) * 2 ^ 23 + (a.toInt.natAbs * 2 ^ n - 2 ^ 31) / 2 ^ 8 := by
  have ne_zero : a ≠ 0#32 := by
    rintro rfl
    exact absurd hlo (Nat.not_le.2 (Nat.two_pow_pos _))
  rw [← magnitude_toNat] at hlo hhi ⊢
  obtain ⟨norm_lo, norm_hi⟩ := normalized_bounds hn hlo hhi
  have exponent : (BitVec.ofNat 8 (128 - n)).toNat = 128 - n := by
    rw [BitVec.toNat_ofNat]
    omega
  have fraction : ((shl32 (magnitude a).toNat n).extractLsb' 8 23).toNat =
      ((magnitude a).toNat * 2 ^ n - 2 ^ 31) / 2 ^ 8 := by
    rw [BitVec.extractLsb'_toNat, shl32, BitVec.toNat_ofNat, Nat.mod_eq_of_lt norm_hi, Nat.shiftRight_eq_div_pow]
    omega
  rw [toFloatW, if_neg ne_zero, clz32_eq hn hlo hhi, toNat_append_fields, exponent, fraction, msb_eq_decide]
  simp

/-! ## FROMFLOAT (R115) -/

/-- The negated value of a word wraps to the negated word (R15). -/
theorem wrap32_neg_toNat (v : Word) : wrap32 (-(v.toNat : Int)) = -v := by
  rw [wrap32, BitVec.ofInt_neg, BitVec.ofInt_natCast, BitVec.ofNat_toNat, BitVec.setWidth_eq]

/-- FROMFLOAT of every bit pattern: the significand shifted, with its sign, wrapped (R115; 92_eei_decisions.md D15).
-/
theorem fromFloatW_eq (f : Word) :
    fromFloatW f = BitVec.ofInt 32 ((if f.msb then -1 else 1) *
      (((2 ^ 23 + f.toNat % 2 ^ 23) * 2 ^ (f.toNat / 2 ^ 23 % 2 ^ 8) / 2 ^ 120 : Nat) : Int)) := by
  have significand_eq : significand f = 2 ^ 23 + f.toNat % 2 ^ 23 := by
    rw [significand, BitVec.extractLsb'_toNat, Nat.shiftRight_zero]
    rfl
  have exponent_eq : exponentField f = f.toNat / 2 ^ 23 % 2 ^ 8 := by
    rw [exponentField, BitVec.extractLsb'_toNat, Nat.shiftRight_eq_div_pow]
  rw [← significand_eq, ← exponent_eq, fromFloatW]
  have shifted : (if 120 ≤ exponentField f then shl32 (significand f) (exponentField f - 120)
      else BitVec.ofNat 32 (lsr (significand f) (120 - exponentField f))) =
      BitVec.ofNat 32 (significand f * 2 ^ exponentField f / 2 ^ 120) := by
    split
    · rename_i he
      rw [shl32, ← Nat.sub_add_cancel he, Nat.pow_add, ← Nat.mul_assoc, Nat.mul_div_cancel _ (Nat.two_pow_pos 120),
        Nat.add_sub_cancel]
    · rename_i he
      rw [lsr, ← Nat.mul_div_mul_right _ (2 ^ (120 - exponentField f)) (Nat.two_pow_pos (exponentField f)),
        ← Nat.pow_add, Nat.sub_add_cancel (Nat.le_of_not_le he)]
  rw [shifted]
  generalize significand f * 2 ^ exponentField f / 2 ^ 120 = m
  cases f.msb with
  | false =>
    rw [if_neg Bool.false_ne_true, if_neg Bool.false_ne_true, Int.one_mul, BitVec.ofInt_natCast]
  | true =>
    rw [if_pos rfl, if_pos rfl, wrap32_neg_toNat, Int.neg_one_mul, BitVec.ofInt_neg, BitVec.ofInt_natCast]

/-! ## The statements -/

/-- Settles O1: zero, and the packed fields of any other word. -/
theorem tofloatPacksNormalizedMagnitude : Obligations.TofloatPacksNormalizedMagnitude := by
  intro a s
  rw [exec_toFloat]
  refine ⟨fun hzero => by rw [hzero]; rfl, fun n hn hlo hhi => ?_⟩
  rw [← toFloatW_toNat hn hlo hhi, BitVec.ofNat_toNat, BitVec.setWidth_eq]

/-- Settles O2: both branches of the shift are one floor division. -/
theorem fromfloatShiftsSignificand : Obligations.FromfloatShiftsSignificand := by
  intro f s
  rw [exec_fromFloat, fromFloatW_eq]

/-- The shift up by `n` and down by 8 that TOFLOAT does, undone by the exponent `128 - n`, truncates to a multiple of
`2 ^ (8 - n)` (R117). -/
theorem normalized_truncation (m : Nat) {n : Nat} (hn : n ≤ 31) :
    m * 2 ^ n / 2 ^ 8 * 2 ^ (128 - n) / 2 ^ 120 = m / 2 ^ (8 - n) * 2 ^ (8 - n) := by
  by_cases h : n ≤ 8
  · have up : 2 ^ (128 - n) = 2 ^ (8 - n) * 2 ^ 120 := by rw [← Nat.pow_add]; congr 1; omega
    have down : 2 ^ 8 = 2 ^ (8 - n) * 2 ^ n := by rw [← Nat.pow_add]; congr 1; omega
    rw [up, down, Nat.mul_div_mul_right _ _ (Nat.two_pow_pos n), ← Nat.mul_assoc,
      Nat.mul_div_cancel _ (Nat.two_pow_pos 120)]
  · have up : 2 ^ n = 2 ^ (n - 8) * 2 ^ 8 := by rw [← Nat.pow_add]; congr 1; omega
    have down : 2 ^ 120 = 2 ^ (n - 8) * 2 ^ (128 - n) := by rw [← Nat.pow_add]; congr 1; omega
    rw [up, down, ← Nat.mul_assoc, Nat.mul_div_cancel _ (Nat.two_pow_pos 8),
      Nat.mul_div_mul_right _ _ (Nat.two_pow_pos _), Nat.mul_div_cancel _ (Nat.two_pow_pos _),
      Nat.sub_eq_zero_of_le (by omega), Nat.pow_zero, Nat.div_one, Nat.mul_one]

/-- Settles O3: the fields packed by TOFLOAT are those FROMFLOAT reads. -/
theorem floatRoundTripTruncatesTo24Bits : Obligations.FloatRoundTripTruncatesTo24Bits := by
  intro a
  refine ⟨fun hzero => by rw [hzero]; decide, fun n hn hlo hhi => ?_⟩
  have packed := toFloatW_toNat hn hlo hhi
  obtain ⟨norm_lo, norm_hi⟩ := normalized_bounds hn hlo hhi
  have truncated := normalized_truncation a.toInt.natAbs hn
  have below : a.toInt.natAbs / 2 ^ (8 - n) * 2 ^ (8 - n) ≤ a.toInt.natAbs := Nat.div_mul_le_self _ _
  have upper := a.toInt_lt
  have lower := a.le_toInt
  have sign : (toFloatW a).msb = decide (a.toInt < 0) := by
    rw [BitVec.msb_eq_decide, packed, decide_eq_decide]
    split <;> omega
  have exponent : (toFloatW a).toNat / 2 ^ 23 % 2 ^ 8 = 128 - n := by
    rw [packed]
    split <;> omega
  have fraction : 2 ^ 23 + (toFloatW a).toNat % 2 ^ 23 = a.toInt.natAbs * 2 ^ n / 2 ^ 8 := by
    rw [packed]
    split <;> omega
  rw [fromFloatW_eq, sign, exponent, fraction, truncated]
  generalize a.toInt.natAbs / 2 ^ (8 - n) * 2 ^ (8 - n) = m at below
  by_cases hneg : a.toInt < 0
  · simp only [hneg, decide_true, if_true]
    exact BitVec.toInt_ofInt_eq_self (by decide) (by omega) (by omega)
  · simp only [hneg, decide_false, if_false, Bool.false_eq_true]
    exact BitVec.toInt_ofInt_eq_self (by decide) (by omega) (by omega)

/-- Settles O4: the four partial products, each shifted on its own. -/
theorem mulAndSquareSumFourPartialProducts : Obligations.MulAndSquareSumFourPartialProducts := by
  intro a b s
  refine ⟨?_, exec_square a s, (exec_square a s).trans (exec_mul a a s)⟩
  rw [exec_mul, mulW_eq_partialSum, partialSum, highHalf_eq, highHalf_eq, lowHalf_eq, lowHalf_eq]
  rfl

/-- Settles O5, law by law. -/
theorem mulHasIdentityZeroAndCommutes : Obligations.MulHasIdentityZeroAndCommutes := by
  intro x y
  exact ⟨mulW_one_left x, mulW_one_right x, mulW_zero_right x, mulW_zero_left x, mulW_comm x y⟩

/-- Settles O6: in this range the sum is a word's value, so the wrap does nothing. -/
theorem mulIsLessThanThreeLsbBelowTheProduct : Obligations.MulIsLessThanThreeLsbBelowTheProduct := by
  intro a b hlo hhi
  obtain ⟨below, above⟩ := partialSum_bounds a b
  have no_wrap : (mulW a b).toInt = partialSum a b := by
    rw [mulW_eq_partialSum]
    exact BitVec.toInt_ofInt_eq_self (by decide) (by omega) (by omega)
  rw [no_wrap]
  exact ⟨below, above⟩

/-- Settles O7, branch by branch. -/
theorem sqrtPassesThroughAndZeroes : Obligations.SqrtPassesThroughAndZeroes := by
  intro a s
  rw [exec_sqrt]
  refine ⟨fun hbig => ?_, fun hsmall => ?_⟩
  · have ne_zero : a ≠ 0#32 := by
      rintro rfl
      exact absurd hbig (by decide)
    rw [sqrtW, s32, if_neg (by omega), if_neg ne_zero, if_pos hbig]
  · by_cases hneg : a.toInt < 0
    · rw [sqrtW, s32, if_pos hneg]
    · have zero : a = 0#32 := BitVec.eq_of_toInt_eq (by rw [BitVec.toInt_zero]; omega)
      rw [sqrtW, s32, if_neg hneg, if_pos zero]

/-- The Horner value with the sums of words as such (R124). -/
theorem horner_eq (c : SqrtSet) (t : Word) :
    horner c t = c.c0 + mulW t (c.c1 + mulW t (c.c2 + mulW t (c.c3 + mulW t c.c4))) := by
  simp only [horner, addW_eq]

/-- A left shift of words (R16). -/
theorem shl32_eq (a : Word) (k : Nat) : shl32 a.toNat k = a <<< k := by
  apply BitVec.eq_of_toNat_eq
  rw [shl32, BitVec.toNat_ofNat, BitVec.toNat_shiftLeft, Nat.shiftLeft_eq]

/-- An arithmetic right shift of words (R16). -/
theorem wrap32_asr (a : Word) (k : Nat) : wrap32 (asr (s32 a) k) = a.sshiftRight k := by
  rw [wrap32, asr, s32, BitVec.sshiftRight, Int.shiftRight_eq_div_pow]
  rfl

/-- Settles O8: between 0 and 1.0 none of the other branches is taken, and `clz32` is `n`. -/
theorem sqrtEvaluatesTheSelectedPolynomial : Obligations.SqrtEvaluatesTheSelectedPolynomial := by
  intro a s n h2 hn hlo hhi
  have clz := clz32_eq hn hlo hhi
  have pos : 0 < a.toNat := lt_of_lt_of_le (Nat.two_pow_pos _) hlo
  have small : a.toNat < 2 ^ 30 := lt_of_lt_of_le hhi (Nat.pow_le_pow_right (by decide) (by omega))
  have value : a.toInt = a.toNat := by
    rw [BitVec.toInt_eq_toNat_cond, if_pos (by omega)]
  have ne_zero : a ≠ 0#32 := by
    rintro rfl
    exact absurd pos (by decide)
  have computed : sqrtW s.params a = sqrtPoly s.params a := by
    rw [sqrtW, s32, if_neg (by omega), if_neg ne_zero, if_neg (by omega)]
  have shift : sqrtShift a = n - 2 - n % 2 := by
    rw [sqrtShift, clz]
    split <;> omega
  have parity : sqrtSet s.params a = if n % 2 = 1 then s.params.sqrtOdd else s.params.sqrtEven := by
    rw [sqrtSet, clz, show (n - 2) % 2 = n % 2 by omega]
  rw [exec_sqrt, computed, sqrtPoly]
  dsimp only
  rw [shift, parity, shl32_eq, subW_eq, horner_eq, wrap32_asr]

end Sys2Proof.Machine
end

section
/-! PROOFS. The quaternion engine and the compute requests that run it (spec 41_quaternion.md R142 to R153,
30_encoding.md R96 to R98). The sums of the unit are sums of words; the identity laws are those of MUL, component by
component. -/

namespace Sys2Proof.Machine

open Sys2Proof

/-! ## The meanings, each as one shared operation (R96) -/

theorem exec_qinv (a : Quat) (s : State) : exec (.qinv a) s = returnQuat (qinvQ a) s := rfl

theorem exec_qremap (q : Quat) (ax : Axis) (s : State) : exec (.qremap q ax) s = returnQuat (qremapQ q ax) s := rfl

theorem exec_qpipe (chip raw unity : Quat) (ax : Axis) (s : State) :
    exec (.qpipe chip raw unity ax) s = returnQuat (qpipeQ chip raw unity ax) s := rfl

/-! ## The product, the remap and reserved requests -/

/-- The Hamilton product with the sums of words as such (R144). -/
theorem qmulQ_eq (l r : Quat) :
    qmulQ l r =
      ⟨mulW l.w r.w - mulW l.x r.x - mulW l.y r.y - mulW l.z r.z,
       mulW l.w r.x + mulW l.x r.w + mulW l.y r.z - mulW l.z r.y,
       mulW l.w r.y - mulW l.x r.z + mulW l.y r.w + mulW l.z r.x,
       mulW l.w r.z + mulW l.x r.y - mulW l.y r.x + mulW l.z r.w⟩ := by
  simp only [qmulQ, subW_eq, addW_eq]

/-- QMUL by the identity on the left (R145): every product but those with the scalar 1.0 is zero. -/
theorem qmulQ_identity_left (q : Quat) : qmulQ identityQuat q = q := by
  rw [qmulQ_eq]
  simp [identityQuat]

/-- QMUL by the identity on the right (R145). -/
theorem qmulQ_identity_right (q : Quat) : qmulQ q identityQuat = q := by
  rw [qmulQ_eq]
  simp [identityQuat]

/-- The component an index names, read from the list of the four (R150, R151). -/
theorem component_eq (q : Quat) (i : BitVec 2) : component q i = [q.x, q.y, q.z, 0#32].getD i.toNat 0#32 := by
  rw [component]
  match i.toNat with
  | 0 | 1 | 2 | 3 => rfl
  | n + 4 => rfl

/-- The signed component (R150). -/
theorem pick_eq (q : Quat) (sign : Bool) (i : BitVec 2) :
    pick q sign i = if sign then -([q.x, q.y, q.z, 0#32].getD i.toNat 0#32)
      else [q.x, q.y, q.z, 0#32].getD i.toNat 0#32 := by
  rw [pick, negW_eq, component_eq]

/-- The factory mapping keeps every component (R151). -/
theorem qremapQ_factory (q : Quat) : qremapQ q factoryAxis = q := rfl

/-- A reserved `OP` selects no operation (R98). -/
theorem decodeCreq_reserved {r : Creq} (h : r.op ∈ reservedOps) : decodeCreq r = .rejected (.reservedOp r.op) := by
  have code : r.op = 0x5#4 ∨ r.op = 0x6#4 ∨ r.op = 0x7#4 ∨ r.op = 0xF#4 := by simpa [reservedOps] using h
  rw [decodeCreq]
  rcases code with h | h | h | h <;> rw [h] <;> rfl

/-! ## The statements -/

/-- Settles O10: the vector part is negated as words, and negation is its own inverse. -/
theorem qinvNegatesTheVectorPart : Obligations.QinvNegatesTheVectorPart := by
  intro a s
  constructor
  · rw [exec_qinv, returnQuat_eq_answered, qinvQ_eq]
  · simp only [qinvQ_eq, neg_neg]

/-- Settles O11: the sums of the unit are sums of words. -/
theorem qmulIsTheHamiltonProduct : Obligations.QmulIsTheHamiltonProduct := by
  intro l r s
  rw [exec_qmul, returnQuat_eq_answered, qmulQ_eq]

/-- Settles O13, side by side. -/
theorem qmulByTheIdentityIsExact : Obligations.QmulByTheIdentityIsExact := by
  intro q
  exact ⟨qmulQ_identity_left q, qmulQ_identity_right q⟩

/-- Settles O14: each output axis is the signed component its fields name. -/
theorem qremapPicksSignedComponents : Obligations.QremapPicksSignedComponents := by
  intro q ax s v
  refine ⟨?_, qremapQ_factory q⟩
  rw [exec_qremap, returnQuat_eq_answered, qremapQ, pick_eq, pick_eq, pick_eq]

/-- Settles O15: the request and the SAMPLE event run the same pipeline. -/
theorem qpipeComposesInTheFixedOrder : Obligations.QpipeComposesInTheFixedOrder := by
  constructor
  · intro chip raw unity ax s
    rw [exec_qpipe, returnQuat_eq_answered, qpipeQ]
  · intro q s rest hev
    rw [sampleRunsThePipelineOnce q s rest hev, qpipeQ]

/-- Settles O16: with identity offsets and the factory mapping each stage of the pipeline keeps the sample. -/
theorem pipelineIsTransparentUntilCalibrated : Obligations.PipelineIsTransparentUntilCalibrated := by
  intro q s rest hev hchip hunity haxis
  have transparent : qpipeQ s.qChip q s.qUnity s.axis = q := by
    rw [qpipeQ, hchip, hunity, haxis, qmulQ_identity_left, qremapQ_factory, qmulQ_identity_right]
  rw [sampleRunsThePipelineOnce q s rest hev, transparent]

/-- Settles O17: a request either selects an operation, which answers, or is refused. -/
theorem computeOperationsTouchOnlyTheResult : Obligations.ComputeOperationsTouchOnlyTheResult := by
  intro r s rest hev
  have taken : step s = cpEvent r { s with events := rest } := step_event hev
  rw [taken, cpEvent]
  refine ⟨fun hreserved => by rw [decodeCreq_reserved hreserved], fun hop => ?_⟩
  obtain ⟨i, hi⟩ := exists_decodeCreq hop
  rw [hi]
  exact exec_creq (decodeCreq_format hi) { s with events := rest }

end Sys2Proof.Machine
end
